-- ==== Sys2Proof/Word.lean ====
section
/-!
DEFINITION. The widths of the machine (R7): a 32-bit command and response word, an 8-bit byte,
a 24-bit colour entry, a 16-bit hardware colour, and `ceil8` of R9.
-/

namespace Sys2Proof

/-- A 32-bit command word, response data word or register value (R7, R90, R94). -/
abbrev Word := BitVec 32

/-- A pixel index, a tile byte or a VRAM byte (R7, R60). -/
abbrev Byte := BitVec 8

/-- A 24-bit colour entry of COL, red in bits 23:16 (R62). -/
abbrev Colour := BitVec 24

/-- A 16-bit hardware colour word (R104). -/
abbrev HwColour := BitVec 16

/-- `ceil8(x) = (x + 7) div 8` (R9). -/
abbrev ceil8 (x : Nat) : Nat := (x + 7) / 8

end Sys2Proof
end

