-- ==== Sys2Proof/Syntax.lean ====
section
/-!
DEFINITION. The fourteen commands of PBE command set 1.0, one constructor per row of the opcode map
(R95), with the operands of R93 at their widths.
-/

namespace Sys2Proof

/-- A command with its operands (R92, R93, R95). -/
inductive Instr where
  /-- `NOP` (R121) -/
  | nop
  /-- `SETCFG reg, imm24` (R122); `reg` is `cmd[27:24]`, and a legal word has `reg ≤ 7` (R97) -/
  | setcfg (reg : BitVec 4) (imm : BitVec 24)
  /-- `RDREG reg` (R123) -/
  | rdreg (reg : BitVec 4)
  /-- `CLRST` (R124) -/
  | clrst
  /-- `RESET` (R125) -/
  | reset
  /-- `CVTCOL r, g, b` (R142) -/
  | cvtcol (r g b : Byte)
  /-- `CVTPAL` (R143) -/
  | cvtpal
  /-- `TLOAD tx, ty` (R162) -/
  | tload (tx ty : BitVec 14)
  /-- `TENC` (R165) -/
  | tenc
  /-- `TADDR tx, ty` (R188) -/
  | taddr (tx ty : BitVec 14)
  /-- `TSTORE` (R189) -/
  | tstore
  /-- `VLEN` (R190) -/
  | vlen
  /-- `VCLR` (R191) -/
  | vclr
  /-- `CVTIMG` (R192) -/
  | cvtimg
  deriving DecidableEq, Repr

end Sys2Proof
end

