-- ==== Sys2Proof/WellFormed.lean ====
section
/-!
DEFINITION. Which terms of `Instr` a legal command word stands for. Every operand width is carried by
its type; the one further check is R97's: a SETCFG names a writable register, `reg ≤ 7`.
-/

namespace Sys2Proof

/-- The register number names one of the eight writable registers x[0] to x[7] (R21, R97). -/
def Instr.writableReg (reg : BitVec 4) : Bool := reg.toNat ≤ 7

/-- The well-formed commands: those some legal word encodes (R97). -/
def Instr.wellFormed (i : Instr) : Bool :=
  match i with
  | .nop => true
  | .setcfg reg _ => Instr.writableReg reg
  | .rdreg _ => true
  | .clrst => true
  | .reset => true
  | .cvtcol _ _ _ => true
  | .cvtpal => true
  | .tload _ _ => true
  | .tenc => true
  | .taddr _ _ => true
  | .tstore => true
  | .vlen => true
  | .vclr => true
  | .cvtimg => true

end Sys2Proof
end

