-- ==== Sys2Proof/Decode.lean ====
section
/-!
DEFINITION. The decoder of R102, total on 32-bit words and rejecting by name, and the encoder, written
from the format tables of R92 and the opcode map of R95.
-/

namespace Sys2Proof

/-- Why a word is not a command; the machine raises IllegalCommand for each (R96, R97). -/
inductive DecodeError where
  /-- opcode 0xE or 0xF (R96) -/
  | reservedOpcode
  /-- a "must be zero" field is not zero (R97) -/
  | nonzeroField
  /-- a SETCFG names a read-only register, `reg ≥ 8` (R97) -/
  | readOnlyRegister
  deriving DecidableEq, Repr

/-- `op = cmd[31:28]` (R91). -/
def opField (w : Word) : BitVec 4 := w.extractLsb' 28 4
/-- `reg = cmd[27:24]` (R93). -/
def regField (w : Word) : BitVec 4 := w.extractLsb' 24 4
/-- `imm24 = cmd[23:0]` (R93). -/
def immField (w : Word) : BitVec 24 := w.extractLsb' 0 24
/-- `r = cmd[23:16]` (R93). -/
def redField (w : Word) : Byte := w.extractLsb' 16 8
/-- `g = cmd[15:8]` (R93). -/
def greenField (w : Word) : Byte := w.extractLsb' 8 8
/-- `b = cmd[7:0]` (R93). -/
def blueField (w : Word) : Byte := w.extractLsb' 0 8
/-- `tx = cmd[13:0]` (R93). -/
def txField (w : Word) : BitVec 14 := w.extractLsb' 0 14
/-- `ty = cmd[27:14]` (R93). -/
def tyField (w : Word) : BitVec 14 := w.extractLsb' 14 14
/-- Bits 27:0, which format Z wants zero (R92). -/
def zField (w : Word) : BitVec 28 := w.extractLsb' 0 28

/-- A format-Z word: bits 27:0 must be zero (R92, R97). -/
def decodeZ (w : Word) (i : Instr) : Except DecodeError Instr :=
  if zField w = 0#28 then .ok i else .error .nonzeroField

/-- A format-R word: bits 23:0 must be zero (R92, R97). -/
def decodeR (w : Word) : Except DecodeError Instr :=
  if immField w = 0#24 then .ok (.rdreg (regField w)) else .error .nonzeroField

/-- A format-RI word: `reg ≤ 7` (R92, R97). -/
def decodeRI (w : Word) : Except DecodeError Instr :=
  if Instr.writableReg (regField w) then .ok (.setcfg (regField w) (immField w))
  else .error .readOnlyRegister

/-- A format-C word: bits 27:24 must be zero (R92, R97). -/
def decodeC (w : Word) : Except DecodeError Instr :=
  if regField w = 0#4 then .ok (.cvtcol (redField w) (greenField w) (blueField w))
  else .error .nonzeroField

/-- The decoding procedure of R102 over the opcode map of R95. -/
def decode (w : Word) : Except DecodeError Instr :=
  match (opField w).toNat with
  | 0 => decodeZ w .nop
  | 1 => decodeRI w
  | 2 => decodeR w
  | 3 => decodeZ w .clrst
  | 4 => decodeZ w .reset
  | 5 => decodeC w
  | 6 => decodeZ w .cvtpal
  | 7 => .ok (.tload (txField w) (tyField w))
  | 8 => decodeZ w .tenc
  | 9 => .ok (.taddr (txField w) (tyField w))
  | 10 => decodeZ w .tstore
  | 11 => decodeZ w .vlen
  | 12 => decodeZ w .vclr
  | 13 => decodeZ w .cvtimg
  | _ => .error .reservedOpcode

/-- The word of a format-Z command with opcode `op` (R92). -/
def encodeZ (op : BitVec 4) : Word := op ++ 0#28

/-- The word of a format-T command: op, ty, tx from high bits to low (R92). -/
def encodeT (op : BitVec 4) (tx ty : BitVec 14) : Word := op ++ ty ++ tx

/-- The word of a command, laid out by the format tables of R92 and the opcode map of R95. -/
def encode (i : Instr) : Word :=
  match i with
  | .nop => encodeZ 0x0#4
  | .setcfg reg imm => 0x1#4 ++ reg ++ imm
  | .rdreg reg => 0x2#4 ++ reg ++ 0#24
  | .clrst => encodeZ 0x3#4
  | .reset => encodeZ 0x4#4
  | .cvtcol r g b => 0x5#4 ++ 0#4 ++ r ++ g ++ b
  | .cvtpal => encodeZ 0x6#4
  | .tload tx ty => encodeT 0x7#4 tx ty
  | .tenc => encodeZ 0x8#4
  | .taddr tx ty => encodeT 0x9#4 tx ty
  | .tstore => encodeZ 0xA#4
  | .vlen => encodeZ 0xB#4
  | .vclr => encodeZ 0xC#4
  | .cvtimg => encodeZ 0xD#4

/-- The command word the opcode table's numbering names: a command is one 32-bit number whose bit 0 is
its least significant bit (R90), and every bit at or above `nbits` is 0. -/
def tableWord (nbits w : Nat) : Word := BitVec.ofNat 32 (w % 2 ^ nbits)

/-- What the decoder reads from the opcode table's word `w` of `nbits` bits. No command is longer than
32 bits (R101), so a longer request names none. -/
def decodeTableWord (nbits w : Nat) : Option Instr :=
  if nbits ≤ 32 then (decode (tableWord nbits w)).toOption else none

end Sys2Proof
end

