-- ==== Sys2Proof/Config.lean ====
section
/-!
DEFINITION. What the platform fixes (the three open size parameters of R6) and what the spec leaves
open (the free value a read answers when its register or cell holds no value, R46).
-/

namespace Sys2Proof

/-- The three open size parameters of R6. They are a field of `State`, so that every statement speaks
of every choice of them (DESIGN CHOICE, safe: notes/assumptions/1). -/
structure Params where
  /-- bytes of pixel index memory PIX -/
  pixSize : Nat
  /-- bytes of output image memory VRAM -/
  vramSize : Nat
  /-- 16-bit entries of palette memory PAL -/
  palEntries : Nat
  deriving DecidableEq, Repr

/-- The defaults of R6's table. -/
def Params.default : Params := { pixSize := 65536, vramSize := 65536, palEntries := 256 }

/-- The constraints of R6's table on the three parameters. -/
abbrev Params.Legal (p : Params) : Prop :=
  64 ≤ p.pixSize ∧ p.pixSize ≤ 2 ^ 30 ∧
  16 ≤ p.vramSize ∧ p.vramSize ≤ 2 ^ 30 ∧ p.vramSize % 16 = 0 ∧
  256 ≤ p.palEntries ∧ p.palEntries ≤ 65535

/-- `COL_ENTRIES`, fixed (R6). -/
def colEntries : Nat := 256

/-- The cells of each of the two buffers TILE and ETILE (R41, R42). -/
def bufferCells : Nat := 64

/-- The free value number `n`: what a read answers when its register or cell holds no value is "a draw
under no law" (R46). It has no body, so nothing can be proved of the number (DESIGN CHOICE, safe:
notes/assumptions/4). The index is the counter `State.draws`. -/
opaque Config.freeWord : Nat → Word

end Sys2Proof
end

