-- ==== Sys2Proof/Machine/State.lean ====
section
/-!
DEFINITION. The whole architectural state of PBE (R20), the state after a power-on reset (R47, R251),
and the three reason types of a step.

"Holds no value" is a state the spec gives a register or cell (R13, R46, R47): it is `none` for a
register, and an address not listed for a memory cell (DEDUCED, safe: notes/assumptions/5).
-/

namespace Sys2Proof.Machine

/-- A memory space of cells of `w` bits: its cells that hold a value, by rising address. A cell not
listed holds no value (R46). `Memory 8` is a list of `Host.Cell`. A space is plain memory private to the
block (R77, R238): it is data of `State` alone, with no cache or buffer before it, and `Memory.read`
changes nothing. -/
abbrev Memory (w : Nat) := List (Nat × BitVec w)

/-- The error kinds PBE raises (R221). -/
inductive ErrorKind where
  /-- CVTPAL with `PAD_EN = 1` and `PADSZ < NCOL` (R223) -/
  | paletteOverflow
  /-- a subtile not in bounds, or a ragged image (R224) -/
  | outOfBounds
  /-- the word does not decode (R96, R97) -/
  | illegalCommand
  /-- a configuration value is not legal (R225) -/
  | badConfig
  /-- a command needs a buffer or register that holds no value (R225) -/
  | notReady
  /-- the data would not fit a memory (R225) -/
  | capacity
  deriving DecidableEq, Repr

/-- `STATUS`, x[8] (R31): bits 31:10 read as zero and are not stored. -/
structure Status where
  /-- code of the latched error, 0 when none -/
  err : BitVec 4
  /-- TILE holds the indices a TLOAD extracted -/
  tv : Bool
  /-- ETILE holds the encoding of TILE -/
  ev : Bool
  /-- ADDR holds an offset a TADDR computed -/
  av : Bool
  /-- VLEN holds the total length -/
  lv : Bool
  /-- PAL holds the result of a CVTPAL -/
  pv : Bool
  /-- the last CVTPAL found a duplicate pair; `none` when it read a COL cell holding no value (R143) -/
  dup : Option Bool
  deriving DecidableEq, Repr

/-- The response of a command (R94). -/
structure Response where
  status : BitVec 4
  data : Word
  deriving DecidableEq, Repr

/-- What the host can do to the block: the two ports and the reset input (R69, R90, R250). -/
inductive HostEvent where
  /-- a command word on the command port (R90) -/
  | command (word : Word)
  /-- `HostRead(space, addr)` (R69) -/
  | hostRead (space : BitVec 4) (addr : Word)
  /-- `HostWrite(space, addr, value)` (R69); a value too wide for the cell is refused (R71) -/
  | hostWrite (space : BitVec 4) (addr : Word) (value : Nat)
  /-- the input `rst` asserted (R250) -/
  | powerOn
  deriving DecidableEq, Repr

/-- What the host memory port answers (R69 to R71). -/
inductive HostAnswer where
  /-- `ok = false` (R71) -/
  | refused
  /-- `ok = true` and the cell's value, for a HostRead (R70) -/
  | read (value : Nat)
  /-- `ok = true`, for a HostWrite (R70) -/
  | written
  deriving DecidableEq, Repr

/-- The state: the sixteen control registers of R23, the two buffers and four memories of R20, and five
fields of the model's own (INVENTORY.md, State). -/
structure State where
  /-- PIX_SIZE, VRAM_SIZE, PAL_ENTRIES (R6, R48); no step changes them -/
  params : Params
  /-- x[0] BPP (R24) -/
  bpp : BitVec 4
  /-- x[1] SRCDEPTH (R25) -/
  srcdepth : BitVec 4
  /-- x[2] TILESZ (R26) -/
  tilesz : BitVec 5
  /-- x[3] WIDTH (R27) -/
  width : BitVec 15
  /-- x[4] HEIGHT (R27) -/
  height : BitVec 15
  /-- x[5] NCOL (R28) -/
  ncol : BitVec 9
  /-- x[6] PADCTL: PAD_EN in bit 16, PADSZ in bits 15:0 (R29) -/
  padctl : BitVec 17
  /-- x[7] DUPCTL: DUP0 (R30) -/
  dupctl : BitVec 1
  /-- x[8] STATUS (R31) -/
  status : Status
  /-- x[9] ERRINFO0 (R32) -/
  errinfo0 : Word
  /-- x[10] ERRINFO1 (R32) -/
  errinfo1 : Word
  /-- x[11] ADDR (R36) -/
  addr : Option Word
  /-- x[12] VLEN (R37) -/
  vlen : Option Word
  /-- x[13] PALLEN (R38) -/
  pallen : Option (BitVec 16)
  /-- x[14] DUPCNT (R39) -/
  dupcnt : Option (BitVec 16)
  /-- x[15] DUPIDX: I in bits 15:8, J in bits 7:0 (R39) -/
  dupidx : Option (BitVec 16)
  /-- buffer TILE (R41) -/
  tile : Memory 8
  /-- buffer ETILE (R42) -/
  etile : Memory 8
  /-- memory PIX (R43) -/
  pix : Memory 8
  /-- memory COL (R43) -/
  col : Memory 24
  /-- memory PAL (R44) -/
  pal : Memory 16
  /-- memory VRAM (R44) -/
  vram : Memory 8
  /-- the host events not yet taken, the next one first (DESIGN CHOICE: notes/assumptions/2) -/
  port : List HostEvent
  /-- the last response delivered (R94; DESIGN CHOICE: notes/assumptions/3) -/
  response : Option Response
  /-- the last answer of the host memory port (R69; DESIGN CHOICE: notes/assumptions/3) -/
  answer : Option HostAnswer
  /-- the index of the next free value (DESIGN CHOICE: notes/assumptions/4) -/
  draws : Nat
  deriving DecidableEq, Repr

/-- Reasons a step can stop with a fault. There is none: "every command responds: none can hang" (R259),
and an error of R221 is a next state (DEDUCED, safe: notes/assumptions/18). -/
inductive Fault where
  deriving DecidableEq, Repr

/-- Reasons a step can refuse an instruction. -/
inductive Refusal where
  /-- Raised only by an arm of `exec` whose instruction has no meaning yet; safe. No arm is such an arm. -/
  | notModelled (mnemonic : String)
  deriving DecidableEq, Repr

/-- The three outcomes of a step of this machine. -/
abbrev Result := Host.Outcome State Fault Refusal

/-- STATUS after a reset: ERR = 0 and all six flags 0 (R47). -/
def Status.reset : Status :=
  { err := 0#4, tv := false, ev := false, av := false, lv := false, pv := false, dup := some false }

/-- The state after a power-on reset (R47, R251), with the default parameters of R6 and nothing yet
presented by the host. -/
def State.reset : State where
  params := Params.default
  bpp := 0#4
  srcdepth := 0#4
  tilesz := 8#5
  width := 0#15
  height := 0#15
  ncol := 0#9
  padctl := 0#17
  dupctl := 0#1
  status := Status.reset
  errinfo0 := 0#32
  errinfo1 := 0#32
  addr := none
  vlen := none
  pallen := none
  dupcnt := none
  dupidx := none
  tile := []
  etile := []
  pix := []
  col := []
  pal := []
  vram := []
  port := []
  response := none
  answer := none
  draws := 0

end Sys2Proof.Machine
end

