-- ==== Sys2Proof/Machine/Flags.lean ====
section
/-!
DEFINITION. The STATUS word (R31) and everything that sets or clears a flag (R40). Clearing a flag takes
the value away from what the flag guards (R46).
-/

namespace Sys2Proof.Machine

/-- The STATUS word as read: ERR[3:0], TV[4], EV[5], AV[6], LV[7], PV[8], DUP[9], bits 31:10 zero (R23,
R31). Where DUP holds no value its bit is bit 9 of the free value `free` (R46, R143; DESIGN CHOICE,
safe: notes/assumptions/6). -/
def Status.word (st : Status) (free : Word) : Word :=
  0#22 ++ BitVec.ofBool (st.dup.getD (free.getLsbD 9)) ++ BitVec.ofBool st.pv ++ BitVec.ofBool st.lv ++
    BitVec.ofBool st.av ++ BitVec.ofBool st.ev ++ BitVec.ofBool st.tv ++ st.err

/-- PBE is halted exactly when `STATUS.ERR ≠ 0` (R228). -/
abbrev State.halted (s : State) : Prop := s.status.err ≠ 0#4

/-- The free value a read of this step answers when its register or cell holds no value (R46). -/
def State.free (s : State) : Word := Config.freeWord s.draws

/-- STATUS of this state, as a word. -/
def State.statusWord (s : State) : Word := s.status.word s.free

/-- A successful SETCFG of x[0..4]: TV, EV, AV and LV become 0 (R40), so TILE, ETILE, ADDR and VLEN hold
no value (R46). -/
def State.invalidateGeometry (s : State) : State :=
  { s with
    status := { s.status with tv := false, ev := false, av := false, lv := false }
    tile := [], etile := [], addr := none, vlen := none }

/-- A successful CVTIMG: TV, EV and AV become 0, and TILE, ETILE and ADDR hold no value (R40, R192). -/
def State.invalidateTiles (s : State) : State :=
  { s with
    status := { s.status with tv := false, ev := false, av := false }
    tile := [], etile := [], addr := none }

/-- A successful TLOAD: TILE takes `tile`, TV becomes 1, EV becomes 0 and ETILE holds no value (R40, R162). -/
def State.setTile (s : State) (tile : Memory 8) : State :=
  { s with status := { s.status with tv := true, ev := false }, tile := tile, etile := [] }

/-- A successful TENC: ETILE takes `etile` and EV becomes 1 (R40, R165). -/
def State.setEtile (s : State) (etile : Memory 8) : State :=
  { s with status := { s.status with ev := true }, etile := etile }

/-- A successful TADDR: ADDR takes `a` and AV becomes 1 (R40, R188). -/
def State.setAddr (s : State) (a : Word) : State :=
  { s with status := { s.status with av := true }, addr := some a }

/-- A successful VLEN, VCLR or CVTIMG: VLEN takes `l` and LV becomes 1 (R40, R190). -/
def State.setVlen (s : State) (l : Word) : State :=
  { s with status := { s.status with lv := true }, vlen := some l }

/-- A successful CVTPAL: PV becomes 1, PALLEN takes `len`, and DUP, DUPCNT and DUPIDX take the result of
the scan, `none` when they hold no value (R40, R143). -/
def State.setPalette (s : State) (len : BitVec 16) (scan : Option (BitVec 16 × BitVec 16)) : State :=
  { s with
    status := { s.status with pv := true, dup := scan.map fun p => decide (p.1 ≠ 0#16) }
    pallen := some len, dupcnt := scan.map Prod.fst, dupidx := scan.map Prod.snd }

end Sys2Proof.Machine
end

