-- ==== Sys2Proof/Machine/Memory.lean ====
section
/-!
DEFINITION. The one canonical form of a memory space and its named operations: reading one cell and
writing a run of consecutive cells, `MemRead` and `MemWrite` of R10.
-/

namespace Sys2Proof.Machine

/-- The canonical form: addresses strictly rising. A cell that holds no value is not listed, so equal
memories are equal lists. -/
abbrev Memory.wf {w : Nat} (m : Memory w) : Prop := m.Pairwise (fun a b => a.1 < b.1)

/-- Every listed address is a cell of a space of `n` cells. -/
abbrev Memory.below {w : Nat} (m : Memory w) (n : Nat) : Prop := ∀ c ∈ m, c.1 < n

/-- Reading one cell; `none` when it holds no value (R10, R46). -/
def Memory.read {w : Nat} : Memory w → Nat → Option (BitVec w)
  | [], _ => none
  | (k, v) :: m, a => if k = a then some v else Memory.read m a

/-- The cells of a run written from `base` on; a value that is `none` lists no cell (R46). -/
def Memory.cells {w : Nat} (base : Nat) : List (Option (BitVec w)) → Memory w
  | [] => []
  | none :: vs => Memory.cells (base + 1) vs
  | some v :: vs => (base, v) :: Memory.cells (base + 1) vs

/-- `MemWrite(space, base, n, vs)`: the run of cells from `base` takes the values `vs`, lowest address
first, and no other cell changes (R10). Writing `none` leaves a cell holding no value (R46). -/
def Memory.writeRange {w : Nat} (m : Memory w) (base : Nat) (vs : List (Option (BitVec w))) : Memory w :=
  m.filter (fun c => c.1 < base) ++ Memory.cells base vs ++ m.filter (fun c => base + vs.length ≤ c.1)

/-- Writing one cell (R70). -/
def Memory.write {w : Nat} (m : Memory w) (a : Nat) (v : BitVec w) : Memory w :=
  m.writeRange a [some v]

/-- `n` cells of value zero. -/
def zeroCells (w n : Nat) : List (Option (BitVec w)) := List.replicate n (some 0)

end Sys2Proof.Machine
end

