-- ==== Sys2Proof/Machine/Ops.lean ====
section
/-!
DEFINITION. The named operations every command ends in: delivering a response (R94), raising an error
(R226) and, beside it, the return from the halt (R124, R230); the two resets (R250, R251); and reading
and writing the control registers by number (R21, R23).
-/

namespace Sys2Proof.Machine

/-- The code of an error kind, latched in STATUS.ERR and returned as the status (R221). -/
def ErrorKind.code (e : ErrorKind) : BitVec 4 :=
  match e with
  | .paletteOverflow => 1#4
  | .outOfBounds => 2#4
  | .illegalCommand => 4#4
  | .badConfig => 5#4
  | .notReady => 6#4
  | .capacity => 7#4

/-- A number as a 32-bit word; every number the rules give it fits (R186). -/
def toWord (n : Nat) : Word := BitVec.ofNat 32 n

/-- Delivering the response `(status, data)` (R94). The index of the free values moves on, so that the
next command draws a fresh one (R46; DESIGN CHOICE: notes/assumptions/4). -/
def State.respond (s : State) (status : BitVec 4) (data : Word) : State :=
  { s with response := some { status := status, data := data }, draws := s.draws + 1 }

/-- `respond(status, data)` as the end of a command (R10). -/
def respond (status : BitVec 4) (data : Word) (s : State) : Result := .next (s.respond status data)

/-- The three writes of error entry: STATUS.ERR, ERRINFO0, ERRINFO1 (R226). -/
def State.latch (s : State) (e : ErrorKind) (info0 info1 : Word) : State :=
  { s with status := { s.status with err := e.code }, errinfo0 := info0, errinfo1 := info1 }

/-- The state after error entry: the code and the two information words are latched, the response is
`(code, info0)`, and nothing else changes (R226). -/
def State.raised (s : State) (e : ErrorKind) (info0 info1 : Word) : State :=
  (s.latch e info0 info1).respond e.code info0

/-- Error entry, `raise E(info0, info1)`, as the end of a command (R10, R226). -/
def raise (e : ErrorKind) (info0 info1 : Word) (s : State) : Result := .next (s.raised e info0 info1)

/-- The return from the halt: STATUS.ERR becomes 0 and everything else is kept (R124, R230). -/
def State.clearError (s : State) : State := { s with status := { s.status with err := 0#4 } }

/-- The effect of a reset with `power_on = false` (R251): control registers and buffers as after
power-on, the four memories kept. -/
def State.softReset (s : State) : State :=
  { State.reset with
    params := s.params, pix := s.pix, col := s.col, pal := s.pal, vram := s.vram
    port := s.port, response := s.response, answer := s.answer, draws := s.draws }

/-- The effect of a reset with `power_on = true` (R251). The host's further events and the index of the
free values are no state of the block and stay (DESIGN CHOICE: notes/assumptions/16). -/
def State.powerOnReset (s : State) : State :=
  { State.reset with params := s.params, port := s.port, draws := s.draws }

/-- A register of `w` bits as read: zero-extended, or the free value's low `w` bits when it holds no
value (R23, R46). -/
def readOption {w : Nat} (v : Option (BitVec w)) (free : Word) : Word :=
  (v.getD (free.setWidth w)).setWidth 32

/-- `zext_32(x[reg])` (R10, R23). -/
def readReg (reg : BitVec 4) (s : State) : Word :=
  match reg.toNat with
  | 0 => s.bpp.setWidth 32
  | 1 => s.srcdepth.setWidth 32
  | 2 => s.tilesz.setWidth 32
  | 3 => s.width.setWidth 32
  | 4 => s.height.setWidth 32
  | 5 => s.ncol.setWidth 32
  | 6 => s.padctl.setWidth 32
  | 7 => s.dupctl.setWidth 32
  | 8 => s.statusWord
  | 9 => s.errinfo0
  | 10 => s.errinfo1
  | 11 => readOption s.addr s.free
  | 12 => readOption s.vlen s.free
  | 13 => readOption s.pallen s.free
  | 14 => readOption s.dupcnt s.free
  | _ => readOption s.dupidx s.free

/-- `x[reg] <- imm` for the eight writable registers (R21, R23); the read-only registers are not
written by it. -/
def writeReg (reg : BitVec 4) (imm : BitVec 24) (s : State) : State :=
  match reg.toNat with
  | 0 => { s with bpp := imm.setWidth 4 }
  | 1 => { s with srcdepth := imm.setWidth 4 }
  | 2 => { s with tilesz := imm.setWidth 5 }
  | 3 => { s with width := imm.setWidth 15 }
  | 4 => { s with height := imm.setWidth 15 }
  | 5 => { s with ncol := imm.setWidth 9 }
  | 6 => { s with padctl := imm.setWidth 17 }
  | 7 => { s with dupctl := imm.setWidth 1 }
  | _ => s

end Sys2Proof.Machine
end

