-- ==== Sys2Proof/Machine/Operands.lean ====
section
/-!
DEFINITION. The values the commands derive from their operands and the configuration registers: the
effective bitplane count, the geometry, the legal values of a register (R24 to R30, R33 to R35, R122),
and the two tests several commands begin with.
-/

namespace Sys2Proof.Machine

/-- `bpp_eff()`, the effective bitplane count (R33). -/
def bppEff (s : State) : Nat := if s.bpp ≠ 0#4 then s.bpp.toNat else max s.srcdepth.toNat 2

/-- A bitplane count is legal when it is 2, 4 or 8 (R33). -/
abbrev legalBpp (b : Nat) : Prop := b = 2 ∨ b = 4 ∨ b = 8

/-- `bpt()`, bytes per tile (R34). -/
def bpt (s : State) : Nat := 8 * bppEff s

/-- `geometry_ok()`: both sides are multiples of TILESZ (R35). -/
abbrev geometryOk (s : State) : Prop :=
  s.width.toNat % s.tilesz.toNat = 0 ∧ s.height.toNat % s.tilesz.toNat = 0

/-- `HT`, tiles per row (R35). -/
def horizontalTiles (s : State) : Nat := s.width.toNat / 8
/-- `VT`, rows of tiles (R35). -/
def verticalTiles (s : State) : Nat := s.height.toNat / 8
/-- `HM`, metatiles per row (R35). -/
def horizontalMetatiles (s : State) : Nat := s.width.toNat / 16
/-- `VM`, rows of metatiles (R35). -/
def verticalMetatiles (s : State) : Nat := s.height.toNat / 16

/-- The cells the PixelIndexMatrix takes, `WIDTH * HEIGHT` (R61). -/
def matrixCells (s : State) : Nat := s.width.toNat * s.height.toNat

/-- `PAD_EN`, bit 16 of PADCTL (R29). -/
def padEnabled (s : State) : Bool := s.padctl.getLsbD 16

/-- `PADSZ`, bits 15:0 of PADCTL (R29). -/
def padSize (s : State) : Nat := (s.padctl.setWidth 16).toNat

/-- `legal(reg, imm)`: the value may be written to the register (R122). -/
def legalSetting (reg : BitVec 4) (imm : BitVec 24) : Bool :=
  match reg.toNat with
  | 0 => imm.toNat = 0 ∨ imm.toNat = 2 ∨ imm.toNat = 4 ∨ imm.toNat = 8
  | 1 => imm.toNat ≤ 15
  | 2 => imm.toNat = 8 ∨ imm.toNat = 16
  | 3 => imm.toNat ≤ 32767
  | 4 => imm.toNat ≤ 32767
  | 5 => imm.toNat ≤ 256
  | 6 => imm.toNat ≤ 0x1FFFF
  | 7 => imm.toNat ≤ 1
  | _ => false

/-- The test TENC, TADDR, TSTORE, VLEN, VCLR and CVTIMG begin with: an effective bitplane count outside
{2, 4, 8} raises BadConfig(16, bpp_eff()) (R33, R225); otherwise `k` goes on. -/
def requireBpp (s : State) (k : Result) : Result :=
  if legalBpp (bppEff s) then k else raise .badConfig 16#32 (toWord (bppEff s)) s

/-- The test VLEN, VCLR and CVTIMG make next: a ragged image raises OutOfBounds(WIDTH, HEIGHT) (R190,
R224); otherwise `k` goes on. -/
def requireGeometry (s : State) (k : Result) : Result :=
  if geometryOk s then k
  else raise .outOfBounds (s.width.setWidth 32) (s.height.setWidth 32) s

/-- A capacity test: `need` cells or bytes must fit a memory of `size`, or Capacity(need, size) is raised
before any write (R72, R225); otherwise `k` goes on. -/
def requireCapacity (need size : Nat) (s : State) (k : Result) : Result :=
  if need ≤ size then k else raise .capacity (toWord need) (toWord size) s

end Sys2Proof.Machine
end

