-- ==== Sys2Proof/Machine/Control.lean ====
section
/-!
DEFINITION. The meanings of the control commands NOP, SETCFG, RDREG, CLRST and RESET (R121 to R125). As
R120 says, a meaning is written as if the dispatch had been passed: the halt test and the decode test
are in Machine/Command.lean.
-/

namespace Sys2Proof.Machine

/-- `NOP`: responds (0, 0) and changes no state (R121). -/
def execNop (s : State) : Result := respond 0#4 0#32 s

/-- The flags a successful SETCFG clears: TV, EV, AV, LV when `reg ≤ 4` (R40, R122). -/
def settleFlags (reg : BitVec 4) (s : State) : State :=
  if reg.toNat ≤ 4 then s.invalidateGeometry else s

/-- `SETCFG reg, imm24` (R122). No legal word names `reg ≥ 8` (R97): such a term, which the decoder never
gives, raises IllegalCommand with its own word (DESIGN CHOICE, safe: notes/assumptions/11). -/
def execSetcfg (reg : BitVec 4) (imm : BitVec 24) (s : State) : Result :=
  if Instr.writableReg reg then
    if legalSetting reg imm then
      respond 0#4 (imm.setWidth 32) (settleFlags reg (writeReg reg imm s))
    else raise .badConfig (reg.setWidth 32) (imm.setWidth 32) s
  else raise .illegalCommand (encode (.setcfg reg imm)) 0#32 s

/-- `RDREG reg`: responds `(0, zext_32(x[reg]))` (R123). -/
def execRdreg (reg : BitVec 4) (s : State) : Result := respond 0#4 (readReg reg s) s

/-- `CLRST`: clears ERR and responds with STATUS as it was before (R124). -/
def execClrst (s : State) : Result := respond 0#4 s.statusWord s.clearError

/-- `RESET`: the soft reset of R251 (R125). -/
def execReset (s : State) : Result := respond 0#4 0#32 s.softReset

end Sys2Proof.Machine
end

