-- ==== Sys2Proof/Machine/Tile.lean ====
section
/-!
DEFINITION. The extractor (R160, R161) and the planar_bitplane_encoder proper (R163, R164), and the
meanings of TLOAD (R162) and TENC (R165).
-/

namespace Sys2Proof.Machine

/-- `in_bounds(tx, ty)`: the block of side TILESZ that holds the subtile lies in the matrix (R161). -/
abbrev inBounds (tx ty : Nat) (s : State) : Prop :=
  (8 * tx / s.tilesz.toNat + 1) * s.tilesz.toNat ≤ s.width.toNat ∧
  (8 * ty / s.tilesz.toNat + 1) * s.tilesz.toNat ≤ s.height.toNat

/-- The PIX cell of the pixel in column `x` and row `y` (R61). -/
def pixelAddress (x y : Nat) (s : State) : Nat := y * s.width.toNat + x

/-- `extract(tx, ty)`: the 64 cells of the block in row-major order, copied unchanged (R160). -/
def extract (tx ty : Nat) (s : State) : List (Option Byte) :=
  (List.range 64).map fun i => s.pix.read (pixelAddress (8 * tx + i % 8) (8 * ty + i / 8) s)

/-- The packed byte of one row and one plane: bit `7 - col` is bit `bit` of the pixel in column `col`
(R65, R163, R167). -/
def planeByte (px : Nat → Byte) (bit : Nat) : Byte :=
  (List.range 8).foldl
    (fun acc col => acc ||| (BitVec.ofBool ((px col).getLsbD bit)).setWidth 8 <<< (7 - col)) 0#8

/-- The packed byte of row `row` and plane `bit` of a tile whose cells may hold no value: it holds no
value when one of the eight pixels it depends on holds none (R46; DEDUCED: notes/assumptions/7). -/
def encodeByte (tile : Nat → Option Byte) (row bit : Nat) : Option Byte :=
  if (List.range 8).all fun col => (tile (8 * row + col)).isSome then
    some (planeByte (fun col => (tile (8 * row + col)).getD 0#8) bit)
  else none

/-- `encode(T, B)`: byte `16p + 2·row + k` packs bit `2p + k` of the pixels of row `row` (R105, R163).
Index bits at and above `B` are not read (R164). -/
def encodeTile (tile : Nat → Option Byte) (b : Nat) : List (Option Byte) :=
  (List.range (8 * b)).map fun off => encodeByte tile (off % 16 / 2) (2 * (off / 16) + off % 2)

/-- A list of 64 cells as a tile. -/
def tileOf (cells : List (Option Byte)) (i : Nat) : Option Byte := (cells[i]?).join

/-- `TLOAD tx, ty` (R162): OutOfBounds(tx, ty), then Capacity(WIDTH·HEIGHT, PIX_SIZE), then the copy. -/
def execTload (tx ty : BitVec 14) (s : State) : Result :=
  if inBounds tx.toNat ty.toNat s then
    requireCapacity (matrixCells s) s.params.pixSize s
      (respond 0#4 0#32 (s.setTile (Memory.writeRange [] 0 (extract tx.toNat ty.toNat s))))
  else raise .outOfBounds (tx.setWidth 32) (ty.setWidth 32) s

/-- `TENC` (R165): BadConfig(16, bpp_eff()), then NotReady(STATUS, 0), then the encoding; the cells of
ETILE at and above `bpt()` hold no value. -/
def execTenc (s : State) : Result :=
  requireBpp s
    (if s.status.tv then
      respond 0#4 (toWord (bpt s))
        (s.setEtile (Memory.writeRange [] 0 (encodeTile s.tile.read (bppEff s))))
    else raise .notReady s.statusWord 0#32 s)

end Sys2Proof.Machine
end

