-- ==== Sys2Proof/Machine/Layout.lean ====
section
/-!
DEFINITION. The tile_layout_mapper: the placement functions (R180 to R183, R185) and the meanings of
TADDR (R188), TSTORE (R189), VLEN (R190), VCLR (R191) and CVTIMG (R192).
-/

namespace Sys2Proof.Machine

/-- `index8(tx, ty)`, raster order (R181). -/
def index8 (tx ty : Nat) (s : State) : Nat := ty * horizontalTiles s + tx

/-- `m`, the number of the metatile that holds the subtile (R182, R183). -/
def metatileNumber (tx ty : Nat) (s : State) : Nat := ty / 2 * horizontalMetatiles s + tx / 2

/-- `n`, the base index of metatile number `m` (R183). -/
def metatileBase (m : Nat) : Nat := 32 * (m / 8) + 2 * (m % 8)

/-- `index16(tx, ty)`: the four quarters at n, n+1, n+16, n+17 (R183). -/
def index16 (tx ty : Nat) (s : State) : Nat :=
  metatileBase (metatileNumber tx ty s) + tx % 2 + 16 * (ty % 2)

/-- 8×8 mode (R26). -/
abbrev mode8 (s : State) : Prop := s.tilesz = 8#5

/-- The tile index of a subtile in the present mode (R180, R188). -/
def tileIndex (tx ty : Nat) (s : State) : Nat := if mode8 s then index8 tx ty s else index16 tx ty s

/-- The byte offset of a subtile in VRAM (R180, R188). -/
def tileOffset (tx ty : Nat) (s : State) : Nat := tileIndex tx ty s * bpt s

/-- The tile slots of the VramImage, padding included (R185). -/
def totalSlots (s : State) : Nat :=
  if mode8 s then horizontalTiles s * verticalTiles s
  else 32 * ceil8 (horizontalMetatiles s * verticalMetatiles s)

/-- `total_len()` (R185). -/
def totalLen (s : State) : Nat := totalSlots s * bpt s

/-- The subtile is in the grid: `tx < HT` and `ty < VT` (R188). -/
abbrev inGrid (tx ty : Nat) (s : State) : Prop := tx < horizontalTiles s ∧ ty < verticalTiles s

/-- `TADDR tx, ty` (R188): BadConfig, then OutOfBounds(tx, ty) for a ragged image or a subtile outside the
grid, then the offset. -/
def execTaddr (tx ty : BitVec 14) (s : State) : Result :=
  requireBpp s
    (if geometryOk s ∧ inGrid tx.toNat ty.toNat s then
      let a := toWord (tileOffset tx.toNat ty.toNat s)
      respond 0#4 a (s.setAddr a)
    else raise .outOfBounds (tx.setWidth 32) (ty.setWidth 32) s)

/-- ADDR as TSTORE reads it. Whenever AV = 1 it holds a value; in a state no run reaches, where it does
not, it is the free value (R46; DESIGN CHOICE, safe: notes/assumptions/12). -/
def storeAddress (s : State) : Word := s.addr.getD s.free

/-- The cells ETILE[0 .. bpt()) (R189). -/
def encodedCells (s : State) : List (Option Byte) := (List.range (bpt s)).map s.etile.read

/-- `TSTORE` (R189): BadConfig, NotReady(STATUS, 0), Capacity(ADDR + bpt(), VRAM_SIZE), then the copy. -/
def execTstore (s : State) : Result :=
  requireBpp s
    (if s.status.ev ∧ s.status.av then
      requireCapacity ((storeAddress s).toNat + bpt s) s.params.vramSize s
        (respond 0#4 (storeAddress s)
          { s with vram := s.vram.writeRange (storeAddress s).toNat (encodedCells s) })
    else raise .notReady s.statusWord 0#32 s)

/-- `VLEN` (R190): BadConfig, OutOfBounds(WIDTH, HEIGHT), then the length; there is no capacity test. -/
def execVlen (s : State) : Result :=
  requireBpp s
    (requireGeometry s
      (respond 0#4 (toWord (totalLen s)) (s.setVlen (toWord (totalLen s)))))

/-- VRAM with its first `total_len()` bytes zeroed (R191). -/
def clearedVram (s : State) : Memory 8 := s.vram.writeRange 0 (zeroCells 8 (totalLen s))

/-- `VCLR` (R191): BadConfig, OutOfBounds(WIDTH, HEIGHT), Capacity(L, VRAM_SIZE), then the zeroing. -/
def execVclr (s : State) : Result :=
  requireBpp s
    (requireGeometry s
      (requireCapacity (totalLen s) s.params.vramSize s
        (respond 0#4 (toWord (totalLen s))
          ({ s with vram := clearedVram s }.setVlen (toWord (totalLen s))))))

/-- The subtiles of the image, row by row; the order cannot be observed (R75, R192; DEDUCED, safe:
notes/assumptions/17). -/
def subtiles (s : State) : List (Nat × Nat) :=
  (List.range (verticalTiles s)).flatMap fun ty =>
    (List.range (horizontalTiles s)).map fun tx => (tx, ty)

/-- The bytes of one subtile: `encode(extract(tx, ty), bpp_eff())` (R192). -/
def subtileBytes (tx ty : Nat) (s : State) : List (Option Byte) :=
  let cells := extract tx ty s
  encodeTile (tileOf cells) (bppEff s)

/-- VRAM after the tile loop of CVTIMG (R192). -/
def imageVram (s : State) : Memory 8 :=
  (subtiles s).foldl
    (fun vram p => vram.writeRange (tileOffset p.1 p.2 s) (subtileBytes p.1 p.2 s)) (clearedVram s)

/-- The successful CVTIMG: VRAM and VLEN are written, TILE, ETILE and ADDR hold no value (R192). -/
def convertImage (s : State) : Result :=
  respond 0#4 (toWord (totalLen s))
    (({ s with vram := imageVram s }.setVlen (toWord (totalLen s))).invalidateTiles)

/-- `CVTIMG` (R192): BadConfig, OutOfBounds(WIDTH, HEIGHT), Capacity of PIX, Capacity of VRAM, then the
whole image. -/
def execCvtimg (s : State) : Result :=
  requireBpp s
    (requireGeometry s
      (requireCapacity (matrixCells s) s.params.pixSize s
        (requireCapacity (totalLen s) s.params.vramSize s (convertImage s))))

end Sys2Proof.Machine
end

