-- ==== Sys2Proof/Machine/Palette.lean ====
section
/-!
DEFINITION. The rgb_to_15bit_converter: `hwcolor` (R140), the duplicate scan (R146), and the meanings of
CVTCOL (R142) and CVTPAL (R143 to R147).
-/

namespace Sys2Proof.Machine

/-- `hwcolor(r, g, b) = ((b & 0xF8) << 7) | ((g & 0xF8) << 2) | (r >> 3)` (R140). -/
def hwcolor (r g b : Byte) : HwColour :=
  ((b &&& 0xF8#8).setWidth 16 <<< 7) ||| ((g &&& 0xF8#8).setWidth 16 <<< 2) ||| (r >>> 3).setWidth 16

/-- `hwcolor` of a COL cell `{r, g, b}`: red in bits 23:16, green in 15:8, blue in 7:0 (R62). -/
def hwcolorOfEntry (c : Colour) : HwColour :=
  hwcolor (c.extractLsb' 16 8) (c.extractLsb' 8 8) (c.extractLsb' 0 8)

/-- The encoded source colours COL[0 .. n), `none` where the cell holds no value (R46, R143). -/
def sourceEntries (n : Nat) (s : State) : List (Option HwColour) :=
  (List.range n).map fun i => (s.col.read i).map hwcolorOfEntry

/-- The set P of R146: the pairs `(i, j)` with `lo ≤ j < i < n` and equal encoded words, by rising `i`
and then by rising `j`. -/
def duplicatePairs (lo : Nat) (ws : List (Option HwColour)) : List (Nat × Nat) :=
  (List.range ws.length).flatMap fun i =>
    ((List.range i).filter fun j => lo ≤ j ∧ ws[i]? = ws[j]?).map fun j => (i, j)

/-- `first` of R146: `(i << 8) | j` for the first pair, 0 when there is none. -/
def firstPair (ps : List (Nat × Nat)) : BitVec 16 :=
  match ps with
  | [] => 0#16
  | (i, j) :: _ => BitVec.ofNat 16 (i * 256 + j)

/-- `lo` of R146: 0 when DUP0 = 1, else 1. -/
def scanBound (dup0 : BitVec 1) : Nat := if dup0 = 1#1 then 0 else 1

/-- `dupscan(n, dup0)` on the source entries: the count and the first pair (R146). When a source entry
holds no value the result holds none (R143; DEDUCED, safe: notes/assumptions/8). -/
def dupscan (dup0 : BitVec 1) (ws : List (Option HwColour)) : Option (BitVec 16 × BitVec 16) :=
  if ws.all Option.isSome then
    let ps := duplicatePairs (scanBound dup0) ws
    some (BitVec.ofNat 16 ps.length, firstPair ps)
  else none

/-- The length CVTPAL gives the Palette: PADSZ when padding is supplied, else NCOL (R143, R144). -/
def paletteLength (s : State) : Nat := if padEnabled s then padSize s else s.ncol.toNat

/-- The cells CVTPAL writes: the source entries, then zero words up to the length (R143, R144). -/
def paletteCells (s : State) : List (Option HwColour) :=
  sourceEntries s.ncol.toNat s ++ zeroCells 16 (paletteLength s - s.ncol.toNat)

/-- Bit 16 of CVTPAL's response, `cnt > 0`; the free value's bit when the count holds no value (R46,
R143). -/
def duplicateBit (scan : Option (BitVec 16 × BitVec 16)) (free : Word) : Bool :=
  (scan.map fun p => decide (p.1 ≠ 0#16)).getD (free.getLsbD 16)

/-- `CVTCOL r, g, b`: responds with the hardware colour and changes nothing (R142). -/
def execCvtcol (r g b : Byte) (s : State) : Result := respond 0#4 ((hwcolor r g b).setWidth 32) s

/-- The response data of CVTPAL: the length, and bit 16 when a duplicate pair was found (R143). -/
def paletteData (s : State) (scan : Option (BitVec 16 × BitVec 16)) : Word :=
  toWord (paletteLength s) ||| (if duplicateBit scan s.free then 0x10000#32 else 0#32)

/-- The successful CVTPAL: PAL, PALLEN, DUPCNT, DUPIDX, PV and DUP are written (R143). -/
def convertPalette (s : State) : Result :=
  let scan := dupscan s.dupctl (sourceEntries s.ncol.toNat s)
  respond 0#4 (paletteData s scan)
    ({ s with pal := s.pal.writeRange 0 (paletteCells s) }.setPalette
      (BitVec.ofNat 16 (paletteLength s)) scan)

/-- `CVTPAL` (R143): PaletteOverflow(NCOL, PADSZ), then Capacity(outlen, PAL_ENTRIES), then the
conversion. -/
def execCvtpal (s : State) : Result :=
  if padEnabled s ∧ padSize s < s.ncol.toNat then
    raise .paletteOverflow (s.ncol.setWidth 32) (toWord (padSize s)) s
  else
    requireCapacity (paletteLength s) s.params.palEntries s (convertPalette s)

end Sys2Proof.Machine
end

