-- ==== Sys2Proof/Machine/Dispatch.lean ====
section
/-!
DEFINITION. `run d` of R120: one arm per command, each one direct call of its meaning.
-/

namespace Sys2Proof.Machine

def exec (i : Instr) (s : State) : Host.Outcome State Fault Refusal :=
  match i with
  | .nop => Sys2Proof.Machine.execNop s
  | .setcfg reg imm => Sys2Proof.Machine.execSetcfg reg imm s
  | .rdreg reg => Sys2Proof.Machine.execRdreg reg s
  | .clrst => Sys2Proof.Machine.execClrst s
  | .reset => Sys2Proof.Machine.execReset s
  | .cvtcol r g b => Sys2Proof.Machine.execCvtcol r g b s
  | .cvtpal => Sys2Proof.Machine.execCvtpal s
  | .tload tx ty => Sys2Proof.Machine.execTload tx ty s
  | .tenc => Sys2Proof.Machine.execTenc s
  | .taddr tx ty => Sys2Proof.Machine.execTaddr tx ty s
  | .tstore => Sys2Proof.Machine.execTstore s
  | .vlen => Sys2Proof.Machine.execVlen s
  | .vclr => Sys2Proof.Machine.execVclr s
  | .cvtimg => Sys2Proof.Machine.execCvtimg s

end Sys2Proof.Machine
end

