-- ==== Sys2Proof/Machine/Command.lean ====
section
/-!
DEFINITION. The command port: the dispatch of R120, the only place of the halt test and the decode test,
and the pseudo-commands of R100, each a fixed sequence of commands.
-/

namespace Sys2Proof.Machine

/-- The four commands that run while halted (R120, R229). -/
def runsWhileHalted (i : Instr) : Bool :=
  match i with
  | .nop => true
  | .rdreg _ => true
  | .clrst => true
  | .reset => true
  | .setcfg _ _ => false
  | .cvtcol _ _ _ => false
  | .cvtpal => false
  | .tload _ _ => false
  | .tenc => false
  | .taddr _ _ => false
  | .tstore => false
  | .vlen => false
  | .vclr => false
  | .cvtimg => false

/-- The Halted answer: `(15, zext_32(STATUS.ERR))`, and no state of the block changes (R120, R229). -/
def answerHalted (s : State) : Result := respond 15#4 (s.status.err.setWidth 32) s

/-- `execute(cmd)` (R120). While halted an illegal word is answered Halted too, so that the first error
stays latched (R229). -/
def execute (cmd : Word) (s : State) : Result :=
  match decode cmd with
  | .ok i => if s.halted ∧ runsWhileHalted i = false then answerHalted s else exec i s
  | .error _ => if s.halted then answerHalted s else raise .illegalCommand cmd 0#32 s

/-- A sequence of command words, one after the other (R22: "the order of execution is the order of
presentation"). -/
def executeAll : List Word → State → Result
  | [], s => .next s
  | cmd :: cmds, s =>
    match execute cmd s with
    | .next s' => executeAll cmds s'
    | .fault r => .fault r
    | .refused r => .refused r

/-- `CVTTILE tx, ty` (R100). -/
def cvttile (tx ty : BitVec 14) : List Instr := [.tload tx ty, .tenc, .taddr tx ty, .tstore]

/-- `SETPAD n` (R100): `SETCFG PADCTL, 0x10000 + n`. -/
def setpad (n : BitVec 16) : List Instr := [.setcfg 6#4 (0x10000#24 + n.setWidth 24)]

/-- `NOPAD` (R100): `SETCFG PADCTL, 0`. -/
def nopad : List Instr := [.setcfg 6#4 0#24]

end Sys2Proof.Machine
end

