-- ==== Sys2Proof/Machine/HostPort.lean ====
section
/-!
DEFINITION. The host memory port (R69 to R71): the spaces and their sizes (R60), the byte view PALB (R63),
HostRead and HostWrite.
-/

namespace Sys2Proof.Machine

/-- The number of cells of a space; ids 7 to 15 name no space and have none (R60). -/
def spaceCells (space : BitVec 4) (s : State) : Nat :=
  match space.toNat with
  | 0 => s.params.pixSize
  | 1 => colEntries
  | 2 => s.params.palEntries
  | 3 => s.params.vramSize
  | 4 => bufferCells
  | 5 => bufferCells
  | 6 => 2 * s.params.palEntries
  | _ => 0

/-- The byte view PALB: the low byte of PAL[i] at 2i, the high byte at 2i + 1 (R63). -/
def palByte (a : Nat) (s : State) : Option Byte :=
  (s.pal.read (a / 2)).map fun c => c.extractLsb' (8 * (a % 2)) 8

/-- A cell of `w` bits as the port reads it; the free value's low `w` bits when it holds no value (R46). -/
def portValue {w : Nat} (v : Option (BitVec w)) (free : Word) : Nat := (v.getD (free.setWidth w)).toNat

/-- The value of a cell of a space, at the space's cell width (R60, R70). -/
def spaceRead (space : BitVec 4) (a : Nat) (s : State) : Nat :=
  match space.toNat with
  | 0 => portValue (s.pix.read a) s.free
  | 1 => portValue (s.col.read a) s.free
  | 2 => portValue (s.pal.read a) s.free
  | 3 => portValue (s.vram.read a) s.free
  | 4 => portValue (s.tile.read a) s.free
  | 5 => portValue (s.etile.read a) s.free
  | _ => portValue (palByte a s) s.free

/-- The port's answer; like a response it moves the index of the free values on (R46). -/
def State.reply (s : State) (a : HostAnswer) : State :=
  { s with answer := some a, draws := s.draws + 1 }

/-- `HostRead(space, addr)`: accepted for the spaces of R60 below their sizes, and changes nothing (R70);
refused otherwise (R71). -/
def hostRead (space : BitVec 4) (addr : Word) (s : State) : Result :=
  if addr.toNat < spaceCells space s then
    .next (s.reply (.read (spaceRead space addr.toNat s)))
  else .next (s.reply .refused)

/-- `HostWrite(space, addr, value)`: accepted for PIX and COL below their sizes and for a value of the
cell's width, and stores the value; refused without effect otherwise (R70, R71). -/
def hostWrite (space : BitVec 4) (addr : Word) (value : Nat) (s : State) : Result :=
  if addr.toNat < spaceCells space s then
    match space.toNat with
    | 0 =>
      if value < 2 ^ 8 then
        .next ({ s with pix := s.pix.write addr.toNat (BitVec.ofNat 8 value) }.reply .written)
      else .next (s.reply .refused)
    | 1 =>
      if value < 2 ^ 24 then
        .next ({ s with col := s.col.write addr.toNat (BitVec.ofNat 24 value) }.reply .written)
      else .next (s.reply .refused)
    | _ => .next (s.reply .refused)
  else .next (s.reply .refused)

end Sys2Proof.Machine
end

