-- ==== Sys2Proof/Machine/Events.lean ====
section
/-!
DEFINITION. What the block does with one event of the host (R74): a command, a transaction of the host
memory port, or a power-on reset.
-/

namespace Sys2Proof.Machine

/-- One event of the host, taken between commands (R69, R74, R250). -/
def handleEvent (e : HostEvent) (s : State) : Result :=
  match e with
  | .command word => execute word s
  | .hostRead space addr => hostRead space addr s
  | .hostWrite space addr value => hostWrite space addr value s
  | .powerOn => .next s.powerOnReset

/-- With no event presented PBE is idle and keeps all state (R20, R240; DESIGN CHOICE: notes/assumptions/2). -/
def idle (s : State) : Result := .next s

/-- Presenting a command word as the next event of the host. -/
def presentCommand (word : Word) (s : State) : State := { s with port := .command word :: s.port }

end Sys2Proof.Machine
end

