-- ==== Sys2Proof/Machine/Step.lean ====
section
/-!
DEFINITION. One step: PBE takes the next event the host presents (R20, R74). There is no program counter
and no fetch (R22, R78): a program is the sequence of commands the host presents (notes/assumptions/13).
-/

namespace Sys2Proof.Machine

/-- One step: the next event of the host, or idle when there is none. -/
def step (s : State) : Host.Outcome State Fault Refusal :=
  match s.port with
  | [] => idle s
  | e :: rest => handleEvent e { s with port := rest }

/-- The opcode table's word `w` of `nbits` bits presented as the host's next command (R90), so that the
next step runs it. -/
def State.withFetchWord (s : State) (nbits w : Nat) : State := presentCommand (tableWord nbits w) s

end Sys2Proof.Machine
end

