-- ==== Sys2Proof/Machine/Assembler.lean ====
section
/-!
DEFINITION. The textual form of a command (R99): the mnemonic of R95, then its operands, a register by
its name of R23 and a number in decimal. It is the notation of 95_test_vectors.md and has no effect on
the machine.
-/

namespace Sys2Proof.Machine

/-- The name of a control register (R23). -/
def registerName (reg : BitVec 4) : String :=
  match reg.toNat with
  | 0 => "BPP"
  | 1 => "SRCDEPTH"
  | 2 => "TILESZ"
  | 3 => "WIDTH"
  | 4 => "HEIGHT"
  | 5 => "NCOL"
  | 6 => "PADCTL"
  | 7 => "DUPCTL"
  | 8 => "STATUS"
  | 9 => "ERRINFO0"
  | 10 => "ERRINFO1"
  | 11 => "ADDR"
  | 12 => "VLEN"
  | 13 => "PALLEN"
  | 14 => "DUPCNT"
  | _ => "DUPIDX"

/-- Operands in the order of R95's column, separated by commas (R99). -/
def operands (ops : List String) : String := String.intercalate ", " ops

/-- A number in decimal (R99). -/
def decimal {w : Nat} (v : BitVec w) : String := toString v.toNat

/-- The textual form of a command (R99). -/
def assembly (i : Instr) : String :=
  match i with
  | .nop => "NOP"
  | .setcfg reg imm => "SETCFG " ++ operands [registerName reg, decimal imm]
  | .rdreg reg => "RDREG " ++ operands [registerName reg]
  | .clrst => "CLRST"
  | .reset => "RESET"
  | .cvtcol r g b => "CVTCOL " ++ operands [decimal r, decimal g, decimal b]
  | .cvtpal => "CVTPAL"
  | .tload tx ty => "TLOAD " ++ operands [decimal tx, decimal ty]
  | .tenc => "TENC"
  | .taddr tx ty => "TADDR " ++ operands [decimal tx, decimal ty]
  | .tstore => "TSTORE"
  | .vlen => "VLEN"
  | .vclr => "VCLR"
  | .cvtimg => "CVTIMG"

end Sys2Proof.Machine
end

