-- ==== Sys2Proof/Safety.lean ====
section
/-!
DEFINITION. What counts as a legal state: the whole-machine rules of R6, R23 to R44 and R46 put together
as one invariant, clause by clause. And what counts as a successful run (R260).
-/

namespace Sys2Proof.Machine

/-- The configuration registers hold legal values (R24, R26, R28; the other widths are all legal). -/
def State.ConfigLegal (s : State) : Prop :=
  (s.bpp = 0#4 ∨ s.bpp = 2#4 ∨ s.bpp = 4#4 ∨ s.bpp = 8#4) ∧
  (s.tilesz = 8#5 ∨ s.tilesz = 16#5) ∧
  s.ncol.toNat ≤ 256

/-- Every memory and buffer is in canonical form and lists only cells its space has (R60). -/
def State.MemoriesLegal (s : State) : Prop :=
  (s.pix.wf ∧ s.pix.below s.params.pixSize) ∧
  (s.col.wf ∧ s.col.below colEntries) ∧
  (s.pal.wf ∧ s.pal.below s.params.palEntries) ∧
  (s.vram.wf ∧ s.vram.below s.params.vramSize) ∧
  (s.tile.wf ∧ s.tile.below bufferCells) ∧
  (s.etile.wf ∧ s.etile.below bufferCells)

/-- The latched code is 0 or one an error kind has: never 3, never 8 to 15 (R221, R222). -/
def State.ErrorLegal (s : State) : Prop := s.status.err = 0#4 ∨ ∃ e : ErrorKind, s.status.err = e.code

/-- TILE holds no value while TV = 0 (R46). -/
def State.TileGuarded (s : State) : Prop := s.status.tv = false → s.tile = []

/-- ETILE holds no value while EV = 0 (R46), and while EV = 1 it holds the encoding of TILE at the present
effective bitplane count (R31, R42). -/
def State.EtileGuarded (s : State) : Prop :=
  (s.status.ev = false → s.etile = []) ∧
  (s.status.ev = true →
    s.status.tv = true ∧ legalBpp (bppEff s) ∧
    s.etile = Memory.writeRange [] 0 (encodeTile s.tile.read (bppEff s)))

/-- ADDR holds no value while AV = 0 (R46), and while AV = 1 it holds the offset of some subtile under the
present geometry (R31, R36). -/
def State.AddrGuarded (s : State) : Prop :=
  (s.status.av = false → s.addr = none) ∧
  (s.status.av = true →
    legalBpp (bppEff s) ∧ geometryOk s ∧
    ∃ tx ty, inGrid tx ty s ∧ s.addr = some (toWord (tileOffset tx ty s)))

/-- VLEN holds no value while LV = 0 (R46), and while LV = 1 it holds the total length under the present
geometry (R31, R37). -/
def State.VlenGuarded (s : State) : Prop :=
  (s.status.lv = false → s.vlen = none) ∧
  (s.status.lv = true →
    legalBpp (bppEff s) ∧ geometryOk s ∧ s.vlen = some (toWord (totalLen s)))

/-- PALLEN, DUPCNT and DUPIDX hold no value while PV = 0 (R46), DUP is then 0; while PV = 1 PALLEN is at
most PAL_ENTRIES (R38), and either the scan's three results hold no value (R143) or DUP says whether
DUPCNT is not 0, DUPCNT is at most 32640 and DUPIDX is 0 when DUPCNT is (R31, R39). -/
def State.PaletteGuarded (s : State) : Prop :=
  (s.status.pv = false →
    s.pallen = none ∧ s.dupcnt = none ∧ s.dupidx = none ∧ s.status.dup = some false) ∧
  (s.status.pv = true →
    (∃ l, s.pallen = some l ∧ l.toNat ≤ s.params.palEntries) ∧
    ((s.status.dup = none ∧ s.dupcnt = none ∧ s.dupidx = none) ∨
      ∃ c i, s.dupcnt = some c ∧ s.dupidx = some i ∧ s.status.dup = some (decide (c ≠ 0#16)) ∧
        c.toNat ≤ 32640 ∧ (c = 0#16 → i = 0#16)))

/-- Every response delivered has one of the statuses 0, 1, 2, 4 to 7 and 15 (R94). -/
def State.ResponseLegal (s : State) : Prop :=
  ∀ r, s.response = some r → r.status = 0#4 ∨ r.status = 15#4 ∨ ∃ e : ErrorKind, r.status = e.code

/-- The invariant of the machine: every clause holds after a reset and every step keeps it. -/
structure State.Inv (s : State) : Prop where
  params : s.params.Legal
  config : s.ConfigLegal
  memories : s.MemoriesLegal
  error : s.ErrorLegal
  tile : s.TileGuarded
  etile : s.EtileGuarded
  addr : s.AddrGuarded
  vlen : s.VlenGuarded
  palette : s.PaletteGuarded
  response : s.ResponseLegal

/-- Every response along `k` steps from `s` had status 0 (R260). -/
def ResponsesOk (k : Nat) (s : State) : Prop :=
  ∀ j, j ≤ k → ∀ t r, core.run j s = .next t → t.response = some r → r.status = 0#4

/-- `k` steps from `s` have succeeded: at their end `STATUS.ERR = 0`, and every response along them had
status 0 (R260; the run from a reset is `Run` in Machine/Run.lean). -/
def RunSucceeded (k : Nat) (s : State) : Prop :=
  (∃ t, core.run k s = .next t ∧ t.status.err = 0#4) ∧ ResponsesOk k s

end Sys2Proof.Machine
end

