-- ==== Sys2Proof/Machine/Run.lean ====
section
/-!
DEFINITION. A run of the block and its result (R260): a finite sequence of commands and host-port
transactions from a reset, when it has succeeded, and its artifacts, the Palette and the VramImage. What
the host can read at the end of a run is what RDREG and HostRead answer there (`execRdreg`, `hostRead`).
-/

namespace Sys2Proof.Machine

/-- The state right after either reset (R250, R251), applied to a state the block can be in. -/
def State.AfterReset (s : State) : Prop :=
  ∃ u : State, u.Inv ∧ (s = u.powerOnReset ∨ s = u.softReset.respond 0#4 0#32)

/-- A run: where it starts and what the host issues, first event first (R260). -/
structure Run where
  start : State
  events : List HostEvent
  deriving DecidableEq, Repr

/-- The start of the run with its events presented. -/
def Run.initial (r : Run) : State := { r.start with port := r.events }

/-- The run starts from a reset, and its events are commands and host-port transactions (R260). -/
def Run.Legal (r : Run) : Prop := r.start.AfterReset ∧ HostEvent.powerOn ∉ r.events

/-- The end of the run: the host stops issuing (R260). -/
def Run.result (r : Run) : Result := core.run r.events.length r.initial

/-- The run has succeeded: it is a run from a reset, `STATUS.ERR = 0` at its end, and every response had
status 0 (R260). -/
def Run.Succeeded (r : Run) : Prop := r.Legal ∧ RunSucceeded r.events.length r.initial

/-- The Palette section, `PAL[0 .. PALLEN)`, if PV = 1 (R107, R260). -/
def State.paletteSection (s : State) : Option (List (Option HwColour)) :=
  if s.status.pv then s.pallen.map fun n => (List.range n.toNat).map s.pal.read else none

/-- The Tile section, `VRAM[0 .. VLEN)`, if LV = 1 (R106, R260). -/
def State.tileSection (s : State) : Option (List (Option Byte)) :=
  if s.status.lv then s.vlen.map fun n => (List.range n.toNat).map s.vram.read else none

/-- VCLR and one CVTTILE for each subtile of a list (R192, R260). -/
def tileByTile (order : List (Nat × Nat)) : List Instr :=
  .vclr :: order.flatMap fun p => cvttile (BitVec.ofNat 14 p.1) (BitVec.ofNat 14 p.2)

/-- A list that names every subtile of the image once. -/
def ListsSubtiles (order : List (Nat × Nat)) (s : State) : Prop :=
  (∀ p, p ∈ order ↔ inGrid p.1 p.2 s) ∧ order.Nodup

/-! ### How the image in VRAM was produced -/

/-- A subtile by its coordinates (R13). -/
abbrev Subtile := Nat × Nat

/-- The configuration of the tile path, x[0..4]. -/
structure TileConfig where
  bpp : BitVec 4
  srcdepth : BitVec 4
  tilesz : BitVec 5
  width : BitVec 15
  height : BitVec 15
  deriving DecidableEq, Repr

/-- The present configuration of the tile path. -/
def State.tileConfig (s : State) : TileConfig :=
  { bpp := s.bpp, srcdepth := s.srcdepth, tilesz := s.tilesz, width := s.width, height := s.height }

/-- Every subtile of the image is among those converted. -/
abbrev TileConfig.Complete (cfg : TileConfig) (converted : List Subtile) : Prop :=
  ∀ tx, tx < cfg.width.toNat / 8 → ∀ ty, ty < cfg.height.toNat / 8 → (tx, ty) ∈ converted

/-- The image a CVTIMG or a VCLR began: the configuration it stands under, and the subtiles whose slot holds
their own encoding since. -/
structure ImageRecord where
  config : TileConfig
  converted : List Subtile
  deriving DecidableEq, Repr

/-- What the commands of a run have done so far to the tile path: which subtile TILE, ETILE and ADDR are of,
and the image in VRAM, `none` when no CVTIMG or VCLR made one under an unchanged configuration. It is a
history of the run, no state of the block (R45, R48). -/
structure RunRecord where
  loaded : Option Subtile
  encoded : Option Subtile
  addressed : Option Subtile
  image : Option ImageRecord
  deriving DecidableEq, Repr

/-- The record at the start of a run: TILE, ETILE and ADDR hold no value after a reset (R251). -/
def RunRecord.empty : RunRecord := { loaded := none, encoded := none, addressed := none, image := none }

/-- The image after a successful TSTORE under `cfg`. The slot of `addressed` is converted when ETILE is the
encoding of that same subtile, which is what a CVTTILE stores (R100, R193), and is not when another
tile is stored there (R257 b). A store under another configuration ends the record (R257 d). -/
def ImageRecord.store (cfg : TileConfig) (encoded addressed : Option Subtile) (m : ImageRecord) :
    Option ImageRecord :=
  if m.config = cfg then
    match encoded, addressed with
    | some p, some q =>
      if p = q then some { m with converted := q :: m.converted.filter (· ≠ q) }
      else some { m with converted := m.converted.filter (· ≠ q) }
    | _, _ => none
  else none

/-- The record after a successful SETCFG of x[0..4] or RESET that leaves the configuration `cfg`: TILE, ETILE
and ADDR hold no value (R40); an image not yet complete is lost when its configuration is changed
(R257 d, R260). -/
def RunRecord.reconfigure (cfg : TileConfig) (l : RunRecord) : RunRecord :=
  { RunRecord.empty with
    image := l.image.filter fun m => decide (m.config = cfg ∨ m.config.Complete m.converted) }

/-- The record after the successful command `i` that goes to state `t`. -/
def RunRecord.command (i : Instr) (t : State) (l : RunRecord) : RunRecord :=
  match i with
  | .nop => l
  | .setcfg reg _ => if reg.toNat ≤ 4 then l.reconfigure t.tileConfig else l
  | .rdreg _ => l
  | .clrst => l
  | .reset => l.reconfigure t.tileConfig
  | .cvtcol _ _ _ => l
  | .cvtpal => l
  | .tload tx ty => { l with loaded := some (tx.toNat, ty.toNat), encoded := none }
  | .tenc => { l with encoded := l.loaded }
  | .taddr tx ty => { l with addressed := some (tx.toNat, ty.toNat) }
  | .tstore => { l with image := l.image.bind (ImageRecord.store t.tileConfig l.encoded l.addressed) }
  | .vlen => l
  | .vclr => { l with image := some { config := t.tileConfig, converted := [] } }
  | .cvtimg =>
    { RunRecord.empty with image := some { config := t.tileConfig, converted := subtiles t } }

/-- The command of the step from `s` to `t`, if that step runs one that succeeds. -/
def succeededCommand (s t : State) : Option Instr :=
  match s.port with
  | .command word :: _ =>
    match decode word with
    | .ok i => if t.response.map (·.status) = some 0#4 then some i else none
    | .error _ => none
  | _ => none

/-- The record after the step from `s` to `t`. Host transactions and commands without success leave it. -/
def RunRecord.step (s t : State) (l : RunRecord) : RunRecord :=
  match succeededCommand s t with
  | some i => l.command i t
  | none => l

/-- The record after `k` steps from `s`. -/
def RunRecord.after : Nat → State → RunRecord → RunRecord
  | 0, _, l => l
  | k + 1, s, l =>
    match Machine.step s with
    | .next t => RunRecord.after k t (l.step s t)
    | .fault _ => l
    | .refused _ => l

/-- The record at the end of a run. -/
def Run.record (r : Run) : RunRecord := RunRecord.after r.events.length r.initial RunRecord.empty

/-- The image in VRAM at the end `t` of a run was produced by CVTIMG, or by VCLR and one CVTTILE per subtile,
under a configuration unchanged while it was produced and in force at the end. Other commands and host
transactions may stand between (R260; DEDUCED: notes/assumptions/19). -/
def ImageProduced (r : Run) (t : State) : Prop :=
  ∃ m, r.record.image = some m ∧ m.config = t.tileConfig ∧ m.config.Complete m.converted

/-- `words` is the Palette a successful run leaves (R260). -/
def Run.PaletteArtifact (r : Run) (words : List (Option HwColour)) : Prop :=
  r.Succeeded ∧ ∃ t, r.result = .next t ∧ t.paletteSection = some words

/-- `bytes` is the VramImage a successful run leaves (R260). -/
def Run.ImageArtifact (r : Run) (bytes : List (Option Byte)) : Prop :=
  r.Succeeded ∧ ∃ t, r.result = .next t ∧ ImageProduced r t ∧ t.tileSection = some bytes

end Sys2Proof.Machine
end

