-- ==== Sys2Proof/Certificates/Slice0/Obligations.lean ====
section
/-!
DEFINITION. The statements about the machine, from the spec's numbered rules. In every statement a next
state `t` is written as the state before it with the named fields replaced, so that all other fields are
said to be unchanged; `draws := t.draws` leaves the model's own index of free values open.
-/

namespace Sys2Proof.Claims

open Sys2Proof.Machine

/-- `r` is the error entry of R226 at `s`: ERR, ERRINFO0, ERRINFO1 are written, the response is
`(code, info0)`, and nothing else of the state changes. -/
def Raises (r : Result) (s : State) (code : BitVec 4) (info0 info1 : Word) : Prop :=
  ∃ t, r = .next t ∧
    t = { s with
      status := { s.status with err := code }
      errinfo0 := info0
      errinfo1 := info1
      response := some { status := code, data := info0 }
      draws := t.draws }

/-- `r` answers the response `(status, data)` and is otherwise the state `u`. -/
def Answers (r : Result) (u : State) (status : BitVec 4) (data : Word) : Prop :=
  ∃ t, r = .next t ∧
    t = { u with response := some { status := status, data := data }, draws := t.draws }

/-- The number STATUS reads as when its DUP bit is `dup`: ERR[3:0], TV[4], EV[5], AV[6], LV[7], PV[8],
DUP[9] (R31). -/
def statusValue (st : Status) (dup : Bool) : Word :=
  BitVec.ofNat 32 (st.err.toNat + 16 * st.tv.toNat + 32 * st.ev.toNat + 64 * st.av.toNat +
    128 * st.lv.toNat + 256 * st.pv.toNat + 512 * dup.toNat)

/-- The DUP bit a read of STATUS shows: the bit itself, or any bit when it holds no value (R46, R143). -/
def ShowsDup (s : State) (dup : Bool) : Prop := ∀ c, s.status.dup = some c → dup = c

/-- `word` is the value of STATUS, when DUP holds a value (R31). -/
def ShowsStatus (s : State) (word : Word) : Prop :=
  ∀ dup, s.status.dup = some dup → word = statusValue s.status dup

/-- NotReady(STATUS, 0) (R221): the first information word is the value of STATUS, when it holds one. -/
def RaisesNotReady (r : Result) (s : State) : Prop :=
  ∃ word, ShowsStatus s word ∧ Raises r s 6#4 word 0#32

/-- BadConfig(16, bpp_eff()) (R33). -/
def RaisesBadBpp (r : Result) (s : State) : Prop :=
  Raises r s 5#4 16#32 (BitVec.ofNat 32 (bppEff s))

/-- The value of a writable register as a number (R23). -/
def setting (s : State) (k : Nat) : Nat :=
  match k with
  | 0 => s.bpp.toNat
  | 1 => s.srcdepth.toNat
  | 2 => s.tilesz.toNat
  | 3 => s.width.toNat
  | 4 => s.height.toNat
  | 5 => s.ncol.toNat
  | 6 => s.padctl.toNat
  | 7 => s.dupctl.toNat
  | _ => 0

/-- `legal(reg, imm)` of R122. -/
def LegalValue (reg imm : Nat) : Prop :=
  (reg = 0 ∧ (imm = 0 ∨ imm = 2 ∨ imm = 4 ∨ imm = 8)) ∨ (reg = 1 ∧ imm ≤ 15) ∨
  (reg = 2 ∧ (imm = 8 ∨ imm = 16)) ∨ (reg = 3 ∧ imm ≤ 32767) ∨ (reg = 4 ∧ imm ≤ 32767) ∨
  (reg = 5 ∧ imm ≤ 256) ∨ (reg = 6 ∧ imm ≤ 0x1FFFF) ∨ (reg = 7 ∧ imm ≤ 1)

/-- What register `x[k]` holds, as a 32-bit word; `none` when it holds no value (R23, R46). -/
def registerContent (s : State) (k : Nat) : Option Word :=
  match k with
  | 8 => s.status.dup.map (statusValue s.status)
  | 9 => some s.errinfo0
  | 10 => some s.errinfo1
  | 11 => s.addr
  | 12 => s.vlen
  | 13 => s.pallen.map fun v => BitVec.ofNat 32 v.toNat
  | 14 => s.dupcnt.map fun v => BitVec.ofNat 32 v.toNat
  | 15 => s.dupidx.map fun v => BitVec.ofNat 32 v.toNat
  | _ => some (BitVec.ofNat 32 (setting s k))

/-- The opcode of a command (R95). -/
def opcodeOf (i : Instr) : Nat :=
  match i with
  | .nop => 0
  | .setcfg _ _ => 1
  | .rdreg _ => 2
  | .clrst => 3
  | .reset => 4
  | .cvtcol _ _ _ => 5
  | .cvtpal => 6
  | .tload _ _ => 7
  | .tenc => 8
  | .taddr _ _ => 9
  | .tstore => 10
  | .vlen => 11
  | .vclr => 12
  | .cvtimg => 13

/-- The mask of the opcode table's row for opcode `k` (R95). -/
def rowMask (k : Nat) : Word :=
  if k = 1 then 0xF8000000#32 else if k = 2 then 0xF0FFFFFF#32 else if k = 5 then 0xFF000000#32
  else if k = 7 ∨ k = 9 then 0xF0000000#32 else 0xFFFFFFFF#32

/-- The illegal words of R96 and R97, on the number of the word. -/
def IllegalWord (w : Word) : Prop :=
  let op := w.toNat / 2 ^ 28
  let reg := w.toNat / 2 ^ 24 % 16
  op = 14 ∨ op = 15 ∨
  ((op = 0 ∨ op = 3 ∨ op = 4 ∨ op = 6 ∨ op = 8 ∨ op = 10 ∨ op = 11 ∨ op = 12 ∨ op = 13) ∧
    w.toNat % 2 ^ 28 ≠ 0) ∨
  (op = 2 ∧ w.toNat % 2 ^ 24 ≠ 0) ∨ (op = 5 ∧ reg ≠ 0) ∨ (op = 1 ∧ 8 ≤ reg)

/-- NOP, RDREG, CLRST or RESET (R120). -/
def OneOfTheFour (i : Instr) : Prop := i = .nop ∨ (∃ reg, i = .rdreg reg) ∨ i = .clrst ∨ i = .reset

/-- The word decodes to one of the four commands that run while halted (R120). -/
def RunsHalted (w : Word) : Prop := ∃ i, decode w = .ok i ∧ OneOfTheFour i

/-- When the eight pixels of a row hold values, `out` is the packed byte of plane `bit` of it: bit
`7 - col` is bit `bit` of the pixel in column `col` (R65, R163). -/
def PackedByte (out : Option Byte) (px : Nat → Option Byte) (bit : Nat) : Prop :=
  (∀ col, col < 8 → (px col).isSome = true) →
    ∃ e, out = some e ∧
      ∀ col v, col < 8 → px col = some v → e.getLsbD (7 - col) = v.getLsbD bit

/-- When a pixel of a row of eight holds no value, neither does the byte `out` (R46). -/
def VoidByte (out : Option Byte) (px : Nat → Option Byte) : Prop :=
  (∃ col, col < 8 ∧ px col = none) → out = none

/-- The tile slot of a subtile by the formulas of R181 and R183. -/
def slotOf (width tilesz tx ty : Nat) : Nat :=
  if tilesz = 8 then ty * (width / 8) + tx
  else
    let m := ty / 2 * (width / 16) + tx / 2
    32 * (m / 8) + 2 * (m % 8) + tx % 2 + 16 * (ty % 2)

/-- `total_len()` by the formulas of R185. -/
def lengthOf (width height tilesz bytes : Nat) : Nat :=
  if tilesz = 8 then width / 8 * (height / 8) * bytes
  else 32 * ((width / 16 * (height / 16) + 7) / 8) * bytes

/-- The padding slots of R185, in 16×16 mode. -/
def PaddingSlot (width height k : Nat) : Prop :=
  let count := width / 16 * (height / 16)
  let r := count % 8
  let last := 32 * ((count + 7) / 8 - 1)
  r ≠ 0 ∧ ∃ j, 2 * r ≤ j ∧ j ≤ 15 ∧ (k = last + j ∨ k = last + 16 + j)

/-- TILESZ holds one of its two legal values (R26). -/
def LegalTileSize (s : State) : Prop := s.tilesz = 8#5 ∨ s.tilesz = 16#5

/-- The state `s` with the palette path of `p`: the registers, memories and flags R148 names for it. -/
def withPalettePath (s p : State) : State :=
  { s with
    ncol := p.ncol, padctl := p.padctl, dupctl := p.dupctl, col := p.col, pal := p.pal
    pallen := p.pallen, dupcnt := p.dupcnt, dupidx := p.dupidx
    status := { s.status with pv := p.status.pv, dup := p.status.dup } }

/-- The state `s` with the tile path of `q`: the registers, memories and flags R148 names for it. -/
def withTilePath (s q : State) : State :=
  { s with
    bpp := q.bpp, srcdepth := q.srcdepth, tilesz := q.tilesz, width := q.width, height := q.height
    pix := q.pix, tile := q.tile, etile := q.etile, vram := q.vram, addr := q.addr, vlen := q.vlen
    status := { s.status with
      tv := q.status.tv, ev := q.status.ev, av := q.status.av, lv := q.status.lv } }

/-- A command of the tile or the layout family. -/
def TileCommand (i : Instr) : Prop :=
  (∃ tx ty, i = .tload tx ty) ∨ i = .tenc ∨ (∃ tx ty, i = .taddr tx ty) ∨ i = .tstore ∨ i = .vlen ∨
  i = .vclr ∨ i = .cvtimg

/-- SETCFG of x[0..4] (R40). -/
def WritesGeometry (i : Instr) : Prop := ∃ reg imm, i = .setcfg reg imm ∧ reg.toNat ≤ 4

/-- The length CVTPAL gives the Palette (R143). -/
def outLength (s : State) : Nat :=
  if s.padctl.getLsbD 16 = true then s.padctl.toNat % 65536 else s.ncol.toNat

/-- The overflow condition of R143. -/
def Overflows (s : State) : Prop := s.padctl.getLsbD 16 = true ∧ s.padctl.toNat % 65536 < s.ncol.toNat

/-- The set P of R146 over a palette memory: pairs `(i, j)` with `lo ≤ j < i < n` and equal words. -/
def equalPairs (lo n : Nat) (pal : Memory 16) : Finset (Nat × Nat) :=
  (Finset.range n ×ˢ Finset.range n).filter fun p =>
    lo ≤ p.2 ∧ p.2 < p.1 ∧ pal.read p.1 = pal.read p.2

/-- The number of cells of a space (R60). -/
def cellCount (s : State) (space : Nat) : Nat :=
  match space with
  | 0 => s.params.pixSize
  | 1 => 256
  | 2 => s.params.palEntries
  | 3 => s.params.vramSize
  | 4 => 64
  | 5 => 64
  | 6 => 2 * s.params.palEntries
  | _ => 0

/-- The number a cell of a space holds, if it holds one (R60, R63). -/
def cellValue (s : State) (space a : Nat) : Option Nat :=
  match space with
  | 0 => (s.pix.read a).map BitVec.toNat
  | 1 => (s.col.read a).map BitVec.toNat
  | 2 => (s.pal.read a).map BitVec.toNat
  | 3 => (s.vram.read a).map BitVec.toNat
  | 4 => (s.tile.read a).map BitVec.toNat
  | 5 => (s.etile.read a).map BitVec.toNat
  | 6 => (s.pal.read (a / 2)).map fun c => if a % 2 = 0 then c.toNat % 256 else c.toNat / 256
  | _ => none

/-- The commands that touch no memory space (R68), SETCFG of x[5..7] among them. -/
def TouchesNoSpace (i : Instr) : Prop :=
  i = .nop ∨ (∃ reg imm, i = .setcfg reg imm ∧ 4 < reg.toNat) ∨ (∃ reg, i = .rdreg reg) ∨ i = .clrst ∨
  (∃ r g b, i = .cvtcol r g b) ∨ (∃ tx ty, i = .taddr tx ty) ∨ i = .vlen

/-- The events of a list of commands. -/
def issue (commands : List Instr) : List HostEvent := commands.map fun i => .command (encode i)

/-- An event that writes neither VRAM, nor the tile path's configuration, nor PIX: it may stand between the
commands that produce an image without changing it. -/
def QuietEvent (e : HostEvent) : Prop :=
  match e with
  | .command word =>
    ∃ i, decode word = .ok i ∧
      i ≠ .reset ∧ i ≠ .tstore ∧ i ≠ .vclr ∧ i ≠ .cvtimg ∧ ∀ reg imm, i = .setcfg reg imm → 4 < reg.toNat
  | .hostRead _ _ => True
  | .hostWrite space _ _ => space.toNat ≠ 0
  | .powerOn => False

/-- VCLR and one CVTTILE for each subtile of a list, with the events of each first component before its
CVTTILE. -/
def spacedTiles (spaced : List (List HostEvent × Subtile)) : List HostEvent :=
  issue [.vclr] ++
    spaced.flatMap fun p => p.1 ++ issue (cvttile (BitVec.ofNat 14 p.2.1) (BitVec.ofNat 14 p.2.2))

/-- The state right after either reset of `s` (R250, R251): the power-on reset, or RESET. -/
def AfterResetOf (s t : State) : Prop :=
  t = s.powerOnReset ∨ t = s.softReset ∨ exec .reset s = .next t

end Sys2Proof.Claims

open Sys2Proof Sys2Proof.Machine Sys2Proof.Claims

/-! ### Encoding -/

/-- Decoding an encoded well-formed command gives it back, every operand at every value (R92 to R95). -/
def Obligations.DecodeInvertsEncode : Prop :=
  ∀ i : Instr, i.wellFormed = true → decode (encode i) = .ok i

/-- A word has one meaning and one spelling: encoding a decoded command gives the word back, and the
decoder gives only well-formed commands (R97: "decodes to exactly one command"). -/
def Obligations.EncodeInvertsDecode : Prop :=
  ∀ (w : Word) (i : Instr), decode w = .ok i → i.wellFormed = true ∧ encode i = w

/-- Words written out from R92 and R95 (95_test_vectors.md, section 1) decode as the spec says. -/
def Obligations.DecodesWrittenWords : Prop :=
  decode 0x00000000#32 = .ok .nop ∧
  decode 0x13000010#32 = .ok (.setcfg 3#4 16#24) ∧
  decode 0x28000000#32 = .ok (.rdreg 8#4) ∧
  decode 0x50123456#32 = .ok (.cvtcol 0x12#8 0x34#8 0x56#8) ∧
  decode 0x70008001#32 = .ok (.tload 1#14 2#14) ∧
  decode 0x90004011#32 = .ok (.taddr 17#14 1#14) ∧
  decode 0xD0000000#32 = .ok .cvtimg

/-- A word matches the row of opcode `k` under its mask exactly when it decodes to a command of that
opcode (R95). -/
def Obligations.TableRowsMatchTheDecoder : Prop :=
  ∀ (w : Word) (k : Nat), k < 14 →
    (w &&& rowMask k = BitVec.ofNat 32 (k * 2 ^ 28) ↔ ∃ i, decode w = .ok i ∧ opcodeOf i = k)

/-- The illegal words of R96 and R97 raise IllegalCommand(cmd, 0) when PBE is not halted; every other word
decodes to one command and runs. -/
def Obligations.IllegalWordsRaise : Prop :=
  ∀ (w : Word) (s : State), ¬ s.halted →
    (IllegalWord w → Raises (execute w s) s 4#4 w 0#32) ∧
    (¬ IllegalWord w → ∃ i, decode w = .ok i ∧ execute w s = exec i s) ∧
    IllegalWord 0xFFFFFFFF#32 ∧ decode 0x00000000#32 = .ok .nop

/-! ### Dispatch, halt and errors -/

/-- The dispatch of R120, all four ways through it. -/
def Obligations.DispatchTestsHaltFirst : Prop :=
  ∀ (w : Word) (s : State),
    (s.halted → ∀ i, decode w = .ok i → OneOfTheFour i → execute w s = exec i s) ∧
    (s.halted → ¬ RunsHalted w → Answers (execute w s) s 15#4 (BitVec.ofNat 32 s.status.err.toNat)) ∧
    (¬ s.halted → ∀ i, decode w = .ok i → execute w s = exec i s) ∧
    (¬ s.halted → (∀ i, decode w ≠ .ok i) → Raises (execute w s) s 4#4 w 0#32)

/-- While halted every command but the four changes nothing and answers (15, ERR), and the host memory
port does what it does when not halted (R229). -/
def Obligations.HaltedBlockKeepsItsState : Prop :=
  ∀ s : State, s.halted →
    (∀ w, ¬ RunsHalted w →
      Answers (execute w s) s 15#4 (BitVec.ofNat 32 s.status.err.toNat)) ∧
    (∀ (e : HostEvent) (rest : List HostEvent) (t : State),
      (∃ space addr, e = .hostRead space addr) ∨
        (∃ space addr value, e = .hostWrite space addr value) →
      step { s with port := e :: rest } = .next t →
      step { s with port := e :: rest, status := { s.status with err := 0#4 } } =
        .next { t with status := { t.status with err := 0#4 } })

/-- A step from a halted state keeps the latched error and its information, unless the event is a CLRST, a
RESET or a power-on reset (R230, R231). -/
def Obligations.HaltEndsInThreeWays : Prop :=
  ∀ s t : State, s.halted → step s = .next t →
    (t.status.err = s.status.err ∧ t.errinfo0 = s.errinfo0 ∧ t.errinfo1 = s.errinfo1) ∨
    (∃ rest, s.port = .powerOn :: rest) ∨
    (∃ w rest, s.port = .command w :: rest ∧ (decode w = .ok .clrst ∨ decode w = .ok .reset))

/-- A command that raises an error has performed none of its writes (R227): only ERR, ERRINFO0, ERRINFO1
and the response differ, and they carry the code and the first information word. -/
def Obligations.ErrorsLeaveNoPartialOutput : Prop :=
  ∀ (i : Instr) (s t : State) (r : Response),
    exec i s = .next t → t.response = some r → r.status ≠ 0#4 →
    t = { s with
      status := { s.status with err := r.status }
      errinfo0 := r.data
      errinfo1 := t.errinfo1
      response := some r
      draws := t.draws }

/-- Every command responds in its one step, with a response of its own, and only with the statuses R94
lists (R259: "every command responds: none can hang"). -/
def Obligations.EveryCommandResponds : Prop :=
  ∀ (w : Word) (s : State),
    (∃ t r, execute w s = .next t ∧ t.response = some r ∧
      (r.status.toNat = 0 ∨ r.status.toNat = 1 ∨ r.status.toNat = 2 ∨ r.status.toNat = 4 ∨
        r.status.toNat = 5 ∨ r.status.toNat = 6 ∨ r.status.toNat = 7 ∨ r.status.toNat = 15)) ∧
    ∀ old, execute w { s with response := old } = execute w s

/-- When the next event is a command word that decodes, and PBE is not halted or the command runs while
halted, the step is `exec` of the decoded command at the state with the event taken. -/
def Obligations.StepRunsTheDecodedCommand : Prop :=
  ∀ (s : State) (w : Word) (rest : List HostEvent) (i : Instr),
    s.port = .command w :: rest → decode w = .ok i → (¬ s.halted ∨ OneOfTheFour i) →
    step s = exec i { s with port := rest }

/-- The step takes the first event and leaves the others in their order; with none presented PBE is idle
(R20, R74; that idle is a step is the model's choice, notes/assumptions/2). -/
def Obligations.StepTakesOneEvent : Prop :=
  ∀ s : State,
    (s.port = [] → step s = .next s) ∧
    (∀ e rest, s.port = e :: rest → ∃ t, step s = .next t ∧ t.port = rest)

/-- A latched error is never overlooked by a host that reads every response: when a step takes the block
from not halted to halted, the response is the code and the first information word. -/
def Obligations.LatchedErrorIsReported : Prop :=
  ∀ s t : State, ¬ s.halted → step s = .next t → t.halted →
    t.response = some { status := t.status.err, data := t.errinfo0 }

/-- What sets and clears each flag, completely (R40). -/
def Obligations.FlagsFollowTheTable : Prop :=
  ∀ (i : Instr) (s t : State) (r : Response),
    exec i s = .next t → t.response = some r →
    (r.status ≠ 0#4 →
      t.status.tv = s.status.tv ∧ t.status.ev = s.status.ev ∧ t.status.av = s.status.av ∧
      t.status.lv = s.status.lv ∧ t.status.pv = s.status.pv ∧ t.status.dup = s.status.dup) ∧
    (r.status = 0#4 →
      ((∃ tx ty, i = .tload tx ty) → t.status.tv = true) ∧
      (WritesGeometry i ∨ i = .cvtimg ∨ i = .reset → t.status.tv = false) ∧
      (¬ ((∃ tx ty, i = .tload tx ty) ∨ WritesGeometry i ∨ i = .cvtimg ∨ i = .reset) →
        t.status.tv = s.status.tv) ∧
      (i = .tenc → t.status.ev = true) ∧
      ((∃ tx ty, i = .tload tx ty) ∨ WritesGeometry i ∨ i = .cvtimg ∨ i = .reset →
        t.status.ev = false) ∧
      (¬ (i = .tenc ∨ (∃ tx ty, i = .tload tx ty) ∨ WritesGeometry i ∨ i = .cvtimg ∨ i = .reset) →
        t.status.ev = s.status.ev) ∧
      ((∃ tx ty, i = .taddr tx ty) → t.status.av = true) ∧
      (WritesGeometry i ∨ i = .cvtimg ∨ i = .reset → t.status.av = false) ∧
      (¬ ((∃ tx ty, i = .taddr tx ty) ∨ WritesGeometry i ∨ i = .cvtimg ∨ i = .reset) →
        t.status.av = s.status.av) ∧
      (i = .vlen ∨ i = .vclr ∨ i = .cvtimg → t.status.lv = true) ∧
      (WritesGeometry i ∨ i = .reset → t.status.lv = false) ∧
      (¬ (i = .vlen ∨ i = .vclr ∨ i = .cvtimg ∨ WritesGeometry i ∨ i = .reset) →
        t.status.lv = s.status.lv) ∧
      (i = .cvtpal → t.status.pv = true) ∧
      (i = .reset → t.status.pv = false) ∧
      (¬ (i = .cvtpal ∨ i = .reset) → t.status.pv = s.status.pv) ∧
      (i = .cvtpal → ∀ c, t.dupcnt = some c → t.status.dup = some (decide (0 < c.toNat))) ∧
      (i = .cvtpal → t.dupcnt = none → t.status.dup = none) ∧
      (i = .reset → t.status.dup = some false) ∧
      (¬ (i = .cvtpal ∨ i = .reset) → t.status.dup = s.status.dup))

/-- With an illegal effective bitplane count the six commands that need it raise BadConfig(16, bpp_eff()),
before any other test (R33, R232); and the count and its legality are as R33 defines them. -/
def Obligations.BitplaneCountIsChecked : Prop :=
  ∀ s : State,
    (s.bpp.toNat ≠ 0 → bppEff s = s.bpp.toNat) ∧
    (s.bpp.toNat = 0 → bppEff s = max s.srcdepth.toNat 2) ∧
    (s.bpp.toNat = 0 →
      (legalBpp (bppEff s) ↔
        s.srcdepth.toNat = 0 ∨ s.srcdepth.toNat = 1 ∨ s.srcdepth.toNat = 2 ∨ s.srcdepth.toNat = 4 ∨
          s.srcdepth.toNat = 8)) ∧
    (¬ legalBpp (bppEff s) →
      ∀ i, i = .tenc ∨ (∃ tx ty, i = .taddr tx ty) ∨ i = .tstore ∨ i = .vlen ∨ i = .vclr ∨ i = .cvtimg →
        RaisesBadBpp (exec i s) s)

/-! ### Control commands -/

/-- NOP (R121): encoding, response, no change, runs while halted, illegal with a bit set. -/
def Obligations.NopOnlyResponds : Prop :=
  encode .nop = 0x00000000#32 ∧
  (∀ s, Answers (exec .nop s) s 0#4 0#32) ∧
  (∀ s, Answers (execute 0x00000000#32 s) s 0#4 0#32) ∧
  (∀ (w : Word) (s : State), ¬ s.halted → w.toNat / 2 ^ 28 = 0 → w.toNat ≠ 0 →
    Raises (execute w s) s 4#4 w 0#32)

/-- SETCFG (R122): the value is written exactly when it is legal for the register, four flags and what
they guard are cleared when `reg ≤ 4`, every other register and memory is unchanged; an illegal value
raises BadConfig(reg, imm); `reg ≥ 8` is an illegal word; refused while halted. -/
def Obligations.SetcfgWritesLegalValues : Prop :=
  ∀ (reg : BitVec 4) (imm : BitVec 24) (s : State),
    (encode (.setcfg reg imm)).toNat = 0x10000000 + reg.toNat * 2 ^ 24 + imm.toNat ∧
    (LegalValue reg.toNat imm.toNat →
      ∃ t, exec (.setcfg reg imm) s = .next t ∧
        (∀ k, k < 8 → setting t k = if k = reg.toNat then imm.toNat else setting s k) ∧
        (reg.toNat ≤ 4 →
          t = { s with
            bpp := t.bpp, srcdepth := t.srcdepth, tilesz := t.tilesz, width := t.width
            height := t.height
            status := { s.status with tv := false, ev := false, av := false, lv := false }
            tile := [], etile := [], addr := none, vlen := none
            response := some { status := 0#4, data := BitVec.ofNat 32 imm.toNat }
            draws := t.draws }) ∧
        (4 < reg.toNat →
          t = { s with
            ncol := t.ncol, padctl := t.padctl, dupctl := t.dupctl
            response := some { status := 0#4, data := BitVec.ofNat 32 imm.toNat }
            draws := t.draws })) ∧
    (reg.toNat ≤ 7 → ¬ LegalValue reg.toNat imm.toNat →
      Raises (exec (.setcfg reg imm) s) s 5#4 (BitVec.ofNat 32 reg.toNat)
        (BitVec.ofNat 32 imm.toNat)) ∧
    (8 ≤ reg.toNat → ¬ s.halted →
      Raises (execute (encode (.setcfg reg imm)) s) s 4#4 (encode (.setcfg reg imm)) 0#32) ∧
    (s.halted →
      Answers (execute (encode (.setcfg reg imm)) s) s 15#4 (BitVec.ofNat 32 s.status.err.toNat))

/-- RDREG (R123): it answers what the register holds and changes nothing; a register that holds no value
answers status 0 with some data; it runs while halted; illegal with a bit of 23:0 set. -/
def Obligations.RdregReadsTheRegister : Prop :=
  ∀ (reg : BitVec 4) (s : State),
    (encode (.rdreg reg)).toNat = 0x20000000 + reg.toNat * 2 ^ 24 ∧
    (∀ v, registerContent s reg.toNat = some v → Answers (exec (.rdreg reg) s) s 0#4 v) ∧
    (∃ d, Answers (exec (.rdreg reg) s) s 0#4 d) ∧
    (execute (encode (.rdreg reg)) s = exec (.rdreg reg) s) ∧
    (∀ w : Word, ¬ s.halted → w.toNat / 2 ^ 28 = 2 → w.toNat % 2 ^ 24 ≠ 0 →
      Raises (execute w s) s 4#4 w 0#32)

/-- CLRST (R124): ERR becomes 0, everything else is kept, the response is STATUS as it was, when it holds a
value (when DUP holds none: UnknownDupFreesOneBit). -/
def Obligations.ClrstClearsOnlyErr : Prop :=
  encode .clrst = 0x30000000#32 ∧
  ∀ s : State,
    (∃ word, ShowsStatus s word ∧
      Answers (exec .clrst s) { s with status := { s.status with err := 0#4 } } 0#4 word) ∧
    (execute 0x30000000#32 s = exec .clrst s) ∧
    (∀ w : Word, ¬ s.halted → w.toNat / 2 ^ 28 = 3 → w.toNat % 2 ^ 28 ≠ 0 →
      Raises (execute w s) s 4#4 w 0#32)

/-- RESET and the power-on reset bring registers and buffers to the values of R47 and R251; RESET keeps
the four memories, power-on leaves every cell of them holding no value; RESET runs while halted (R125). -/
def Obligations.BothResetsApplyTheResetValues : Prop :=
  encode .reset = 0x40000000#32 ∧
  ∀ s : State,
    (∃ t, exec .reset s = .next t ∧ execute 0x40000000#32 s = .next t ∧
      (∀ k, k < 8 → setting t k = if k = 2 then 8 else 0) ∧
      bppEff t = 2 ∧ bpt t = 16 ∧
      t = { s with
        bpp := t.bpp, srcdepth := t.srcdepth, tilesz := t.tilesz, width := t.width
        height := t.height, ncol := t.ncol, padctl := t.padctl, dupctl := t.dupctl
        status := { err := 0#4, tv := false, ev := false, av := false, lv := false, pv := false,
                    dup := some false }
        errinfo0 := 0#32, errinfo1 := 0#32
        addr := none, vlen := none, pallen := none, dupcnt := none, dupidx := none
        tile := [], etile := []
        response := some { status := 0#4, data := 0#32 }, draws := t.draws }) ∧
    (∀ w : Word, ¬ s.halted → w.toNat / 2 ^ 28 = 4 → w.toNat % 2 ^ 28 ≠ 0 →
      Raises (execute w s) s 4#4 w 0#32) ∧
    (∀ rest, s.port = .powerOn :: rest → ∃ t, step s = .next t ∧
      (∀ k, k < 8 → setting t k = if k = 2 then 8 else 0) ∧
      bppEff t = 2 ∧ bpt t = 16 ∧
      t = { s with
        bpp := t.bpp, srcdepth := t.srcdepth, tilesz := t.tilesz, width := t.width
        height := t.height, ncol := t.ncol, padctl := t.padctl, dupctl := t.dupctl
        status := { err := 0#4, tv := false, ev := false, av := false, lv := false, pv := false,
                    dup := some false }
        errinfo0 := 0#32, errinfo1 := 0#32
        addr := none, vlen := none, pallen := none, dupcnt := none, dupidx := none
        tile := [], etile := [], pix := [], col := [], pal := [], vram := []
        port := rest, response := t.response, answer := t.answer, draws := t.draws })

/-- The configuration after either reset is usable as it stands (R252), whatever the state before, at every
legal choice of the sizes and whatever the memories a RESET keeps hold. -/
def Obligations.ResetConfigurationIsUsable : Prop :=
  ∀ s t : State, s.params.Legal → AfterResetOf s t →
    bppEff t = 2 ∧ t.tilesz = 8#5 ∧ t.width = 0#15 ∧ t.height = 0#15 ∧ t.ncol = 0#9 ∧
    padEnabled t = false ∧ t.dupctl = 0#1 ∧
    (∀ i, i = .vlen ∨ i = .vclr ∨ i = .cvtimg →
      ∃ u, exec i t = .next u ∧ u.response = some { status := 0#4, data := 0#32 } ∧
        u.vlen = some 0#32) ∧
    (∃ u, exec .cvtpal t = .next u ∧ u.response = some { status := 0#4, data := 0#32 } ∧
      u.pallen = some 0#16) ∧
    (∀ tx ty, Raises (exec (.tload tx ty) t) t 2#4 (BitVec.ofNat 32 tx.toNat)
      (BitVec.ofNat 32 ty.toNat)) ∧
    (∀ tx ty, Raises (exec (.taddr tx ty) t) t 2#4 (BitVec.ofNat 32 tx.toNat)
      (BitVec.ofNat 32 ty.toNat)) ∧
    Raises (exec .tenc t) t 6#4 0#32 0#32 ∧
    Raises (exec .tstore t) t 6#4 0#32 0#32

/-! ### Palette commands -/

/-- `hwcolor` is the formula of R140: blue, green and red in bits 14:10, 9:5 and 4:0, the low three bits
of each channel dropped, bit 15 zero. -/
def Obligations.HwcolorPacksBlueGreenRed : Prop :=
  ∀ r g b : Byte,
    (hwcolor r g b).toNat = ((b.toNat &&& 0xF8) <<< 7) ||| ((g.toNat &&& 0xF8) <<< 2) ||| (r.toNat >>> 3) ∧
    (hwcolor r g b).toNat = b.toNat / 8 * 1024 + g.toNat / 8 * 32 + r.toNat / 8 ∧
    (hwcolor r g b).toNat ≤ 0x7FFF

/-- The laws of `hwcolor` (R141): the round-trip bound, dependence on the top five bits only, and exactly
32768 results. -/
def Obligations.HwcolorRoundTripBound : Prop :=
  (∀ r g b : Byte,
    let v := hwcolor r g b
    ((v <<< 3) &&& 0xF8#16).toNat = (r &&& 0xF8#8).toNat ∧ r.toNat - (r &&& 0xF8#8).toNat ≤ 7 ∧
    ((v >>> 2) &&& 0xF8#16).toNat = (g &&& 0xF8#8).toNat ∧ g.toNat - (g &&& 0xF8#8).toNat ≤ 7 ∧
    ((v >>> 7) &&& 0xF8#16).toNat = (b &&& 0xF8#8).toNat ∧ b.toNat - (b &&& 0xF8#8).toNat ≤ 7) ∧
  (∀ r g b r' g' b' : Byte,
    r.toNat / 8 = r'.toNat / 8 → g.toNat / 8 = g'.toNat / 8 → b.toNat / 8 = b'.toNat / 8 →
    hwcolor r g b = hwcolor r' g' b') ∧
  (∀ v : HwColour, v.toNat < 32768 ↔ ∃ r g b, hwcolor r g b = v)

/-- CVTCOL (R142): it answers the hardware colour and changes nothing; the corner colours; refused while
halted; illegal with a bit of 27:24 set. -/
def Obligations.CvtcolAnswersTheColour : Prop :=
  (∀ (r g b : Byte) (s : State),
    (encode (.cvtcol r g b)).toNat = 0x50000000 + r.toNat * 2 ^ 16 + g.toNat * 2 ^ 8 + b.toNat ∧
    Answers (exec (.cvtcol r g b) s) s 0#4 (BitVec.ofNat 32 (hwcolor r g b).toNat) ∧
    (s.halted →
      Answers (execute (encode (.cvtcol r g b)) s) s 15#4 (BitVec.ofNat 32 s.status.err.toNat))) ∧
  (∀ (w : Word) (s : State), ¬ s.halted → w.toNat / 2 ^ 28 = 5 → w.toNat / 2 ^ 24 % 16 ≠ 0 →
    Raises (execute w s) s 4#4 w 0#32) ∧
  hwcolor 0 0 0 = 0x0000#16 ∧ hwcolor 255 255 255 = 0x7FFF#16 ∧ hwcolor 7 7 7 = 0x0000#16 ∧
  hwcolor 8 8 8 = 0x0421#16 ∧ hwcolor 0x12 0x34 0x56 = 0x28C2#16

/-- CVTPAL when it raises no error (R143, R144): what every PAL cell, PALLEN, PV and the response become, and
that nothing else but DUP, DUPCNT and DUPIDX changes. The response is the length, and bit 16 is DUP, when
DUP holds a value (when it holds none: UnknownDupFreesOneBit). -/
def Obligations.CvtpalWritesThePalette : Prop :=
  ∀ s : State, ¬ Overflows s → outLength s ≤ s.params.palEntries →
    ∃ (t : State) (data : Word), exec .cvtpal s = .next t ∧
      (∀ dup, t.status.dup = some dup →
        data = BitVec.ofNat 32 (outLength s + 65536 * dup.toNat)) ∧
      t = { s with
        pal := t.pal
        pallen := some (BitVec.ofNat 16 (outLength s))
        dupcnt := t.dupcnt, dupidx := t.dupidx
        status := { s.status with pv := true, dup := t.status.dup }
        response := some { status := 0#4, data := data }
        draws := t.draws } ∧
      ∀ a, t.pal.read a =
        if a < s.ncol.toNat then
          (s.col.read a).map fun c =>
            hwcolor (c.extractLsb' 16 8) (c.extractLsb' 8 8) (c.extractLsb' 0 8)
        else if a < outLength s then some 0#16 else s.pal.read a

/-- The duplicate scan of CVTPAL over the source entries (R146): DUPCNT counts the pairs of P, DUPIDX is
the pair with the least i and then the least j, DUP says whether there is one. -/
def Obligations.CvtpalCountsDuplicatePairs : Prop :=
  ∀ s t : State, s.ncol.toNat ≤ 256 → ¬ Overflows s → outLength s ≤ s.params.palEntries →
    exec .cvtpal s = .next t →
    let pairs := equalPairs (if s.dupctl = 1#1 then 0 else 1) s.ncol.toNat t.pal
    (∀ i, i < s.ncol.toNat → (s.col.read i).isSome = true) →
      pairs.card ≤ 32640 ∧
      t.dupcnt = some (BitVec.ofNat 16 pairs.card) ∧
      t.status.dup = some (decide (0 < pairs.card)) ∧
      (pairs.card = 0 → t.dupidx = some 0#16) ∧
      (∀ p, p ∈ pairs → (∀ q, q ∈ pairs → p.1 < q.1 ∨ (p.1 = q.1 ∧ p.2 ≤ q.2)) →
        t.dupidx = some (BitVec.ofNat 16 (p.1 * 256 + p.2)))

/-- When a source entry holds no value, DUPCNT, DUPIDX and DUP hold none after CVTPAL (R143's last corner
case; that this holds for every such entry, compared or not, is notes/assumptions/8). -/
def Obligations.UnwrittenColoursVoidTheScan : Prop :=
  ∀ s t : State, ¬ Overflows s → outLength s ≤ s.params.palEntries → exec .cvtpal s = .next t →
    (∃ i, i < s.ncol.toNat ∧ s.col.read i = none) →
    t.dupcnt = none ∧ t.dupidx = none ∧ t.status.dup = none

/-- The two errors of CVTPAL and their order: PaletteOverflow with both counts (R145), then Capacity. -/
def Obligations.CvtpalRaisesOverflowThenCapacity : Prop :=
  ∀ s : State,
    (Overflows s →
      Raises (exec .cvtpal s) s 1#4 (BitVec.ofNat 32 s.ncol.toNat)
        (BitVec.ofNat 32 (s.padctl.toNat % 65536))) ∧
    (¬ Overflows s → s.params.palEntries < outLength s →
      Raises (exec .cvtpal s) s 7#4 (BitVec.ofNat 32 (outLength s))
        (BitVec.ofNat 32 s.params.palEntries))

/-- PAL[i] after CVTPAL is a function of COL[i] alone for i < NCOL (R147), so permuting colours permutes
the entries. -/
def Obligations.CvtpalKeepsTheOrder : Prop :=
  ∀ s s' t t' : State, exec .cvtpal s = .next t → exec .cvtpal s' = .next t' →
    (∃ r, t.response = some r ∧ r.status = 0#4) → (∃ r, t'.response = some r ∧ r.status = 0#4) →
    ∀ i j, i < s.ncol.toNat → j < s'.ncol.toNat → s.col.read i = s'.col.read j →
      t.pal.read i = t'.pal.read j

/-- The two paths share only ERR (R148): CVTPAL neither reads nor writes the tile path; a tile command
never writes the palette path, and one that succeeds does not read it. -/
def Obligations.PathsAreIndependent : Prop :=
  (∀ s q t : State, exec .cvtpal s = .next t →
    exec .cvtpal (withTilePath s q) = .next (withTilePath t q)) ∧
  (∀ (i : Instr) (s t : State), TileCommand i → exec i s = .next t → withPalettePath t s = t) ∧
  (∀ (i : Instr) (s p t : State) (r : Response), TileCommand i → exec i s = .next t →
    t.response = some r → r.status = 0#4 →
    exec i (withPalettePath s p) = .next (withPalettePath t p))

/-! ### Tile commands -/

/-- TLOAD (R162, with the bounds test of R161 and the extraction of R160): the 64 cells, the flags, that
nothing else changes; OutOfBounds, then Capacity. -/
def Obligations.TloadExtractsTheBlock : Prop :=
  ∀ (tx ty : BitVec 14) (s : State),
    let size := s.tilesz.toNat
    let inside := (8 * tx.toNat / size + 1) * size ≤ s.width.toNat ∧
      (8 * ty.toNat / size + 1) * size ≤ s.height.toNat
    (encode (.tload tx ty)).toNat = 0x70000000 + ty.toNat * 2 ^ 14 + tx.toNat ∧
    (¬ inside → Raises (exec (.tload tx ty) s) s 2#4 (BitVec.ofNat 32 tx.toNat)
      (BitVec.ofNat 32 ty.toNat)) ∧
    (inside → s.params.pixSize < s.width.toNat * s.height.toNat →
      Raises (exec (.tload tx ty) s) s 7#4 (BitVec.ofNat 32 (s.width.toNat * s.height.toNat))
        (BitVec.ofNat 32 s.params.pixSize)) ∧
    (inside → s.width.toNat * s.height.toNat ≤ s.params.pixSize →
      ∃ t, exec (.tload tx ty) s = .next t ∧
        t = { s with
          tile := t.tile, etile := []
          status := { s.status with tv := true, ev := false }
          response := some { status := 0#4, data := 0#32 }, draws := t.draws } ∧
        (∀ row col, row < 8 → col < 8 →
          t.tile.read (8 * row + col) =
            s.pix.read ((8 * ty.toNat + row) * s.width.toNat + 8 * tx.toNat + col)) ∧
        ∀ a, 64 ≤ a → t.tile.read a = none)

/-- TENC (R165, with the encoding of R163): every byte of ETILE, the flag, that nothing else changes;
BadConfig, then NotReady. Bytes of a row with a pixel that holds no value are the subject of
UnwrittenPixelsVoidTheirRows. -/
def Obligations.TencEncodesTheTile : Prop :=
  encode .tenc = 0x80000000#32 ∧
  ∀ s : State,
    (¬ legalBpp (bppEff s) → RaisesBadBpp (exec .tenc s) s) ∧
    (legalBpp (bppEff s) → s.status.tv = false → RaisesNotReady (exec .tenc s) s) ∧
    (legalBpp (bppEff s) → s.status.tv = true →
      ∃ t, exec .tenc s = .next t ∧
        t = { s with
          etile := t.etile
          status := { s.status with ev := true }
          response := some { status := 0#4, data := BitVec.ofNat 32 (8 * bppEff s) }
          draws := t.draws } ∧
        (∀ p row k, p < bppEff s / 2 → row < 8 → k < 2 →
          PackedByte (t.etile.read (16 * p + 2 * row + k)) (fun col => s.tile.read (8 * row + col))
            (2 * p + k)) ∧
        ∀ a, 8 * bppEff s ≤ a → t.etile.read a = none)

/-- The byte of a row with a pixel that holds no value holds no value, in ETILE after TENC and in VRAM after
CVTIMG: that every bit of the byte is void with the one pixel is the model's reading of R46
(notes/assumptions/7). -/
def Obligations.UnwrittenPixelsVoidTheirRows : Prop :=
  (∀ s t : State, exec .tenc s = .next t → legalBpp (bppEff s) → s.status.tv = true →
    ∀ p row k, p < bppEff s / 2 → row < 8 → k < 2 →
      VoidByte (t.etile.read (16 * p + 2 * row + k)) (fun col => s.tile.read (8 * row + col))) ∧
  (∀ s t : State, exec .cvtimg s = .next t → LegalTileSize s → legalBpp (bppEff s) → geometryOk s →
    matrixCells s ≤ s.params.pixSize → totalLen s ≤ s.params.vramSize →
    ∀ tx ty p row k, inGrid tx ty s → p < bppEff s / 2 → row < 8 → k < 2 →
      VoidByte (t.vram.read (tileOffset tx ty s + (16 * p + 2 * row + k)))
        (fun col => s.pix.read ((8 * ty + row) * s.width.toNat + 8 * tx + col)))

/-- Truncation (R164) and the prefix law with bit-depth monotonicity (R166 b, c, d). -/
def Obligations.EncodingTruncatesAndExtends : Prop :=
  (∀ (tile : Nat → Option Byte) (b : Nat), legalBpp b →
    encodeTile tile b =
      encodeTile (fun i => (tile i).map fun v => v &&& BitVec.ofNat 8 (2 ^ b - 1)) b) ∧
  (∀ (tile : Nat → Option Byte) (b b' : Nat), legalBpp b → legalBpp b' → b' < b →
    (encodeTile tile b).take (8 * b') = encodeTile tile b') ∧
  (∀ (tile : Nat → Byte) (b b' : Nat), legalBpp b → legalBpp b' → b' < b →
    (∀ i, i < 64 → (tile i).toNat < 2 ^ b') →
    (encodeTile (fun i => some (tile i)) b).drop (8 * b') =
      List.replicate (8 * b - 8 * b') (some 0#8)) ∧
  (∀ b, legalBpp b → encodeTile (fun _ => some 0#8) b = List.replicate (8 * b) (some 0#8))

/-- `encode(·, B)` on tiles with indices below 2^B is a bijection onto lists of 8·B bytes, the inverse
being the sum R166 (e) gives. -/
def Obligations.EncodingIsABijection : Prop :=
  ∀ b, legalBpp b →
    (∀ (tile : Nat → Byte) (row col : Nat), row < 8 → col < 8 →
      (tile (8 * row + col)).toNat < 2 ^ b →
      (tile (8 * row + col)).toNat =
        ((List.range b).map fun i =>
          match (encodeTile (fun i => some (tile i)) b)[16 * (i / 2) + 2 * row + i % 2]? with
          | some (some e) => (e.getLsbD (7 - col)).toNat * 2 ^ i
          | _ => 0).sum) ∧
    (∀ bytes : List Byte, bytes.length = 8 * b →
      ∃ tile : Nat → Byte, (∀ i, (tile i).toNat < 2 ^ b) ∧
        encodeTile (fun i => some (tile i)) b = bytes.map some)

/-! ### Layout -/

/-- Non-overlap and cover (R187): distinct subtiles get distinct slots below the total, and every slot
below it is the slot of a subtile or, in 16×16 mode only, a padding slot of R185, never both. -/
def Obligations.LayoutIsDisjointAndCovers : Prop :=
  ∀ s : State, LegalTileSize s → geometryOk s →
    let ht := s.width.toNat / 8
    let vt := s.height.toNat / 8
    (∀ tx ty tx' ty', tx < ht → ty < vt → tx' < ht → ty' < vt →
      tileIndex tx ty s = tileIndex tx' ty' s → tx = tx' ∧ ty = ty') ∧
    (∀ tx ty, tx < ht → ty < vt → tileIndex tx ty s < totalSlots s) ∧
    (s.tilesz = 8#5 → ∀ k, k < totalSlots s → ∃ tx ty, tx < ht ∧ ty < vt ∧ tileIndex tx ty s = k) ∧
    (s.tilesz = 16#5 → ∀ k, k < totalSlots s →
      ((∃ tx ty, tx < ht ∧ ty < vt ∧ tileIndex tx ty s = k) ↔
        ¬ PaddingSlot s.width.toNat s.height.toNat k))

/-- The three placement invariants of R184 in 16×16 mode: the four quarters at n, n+1, n+16, n+17; bases
of successive metatiles of a group 2 apart; after eight metatiles the next unused group of 32. -/
def Obligations.MetatilesMeetThePlacementInvariants : Prop :=
  ∀ s : State, s.tilesz = 16#5 →
    (∀ mx my,
      let n := metatileBase (my * (s.width.toNat / 16) + mx)
      tileIndex (2 * mx) (2 * my) s = n ∧ tileIndex (2 * mx + 1) (2 * my) s = n + 1 ∧
      tileIndex (2 * mx) (2 * my + 1) s = n + 16 ∧ tileIndex (2 * mx + 1) (2 * my + 1) s = n + 17) ∧
    (∀ m, m % 8 ≠ 7 → metatileBase (m + 1) = metatileBase m + 2) ∧
    (∀ g, metatileBase (8 * g) = 32 * g)

/-- The ranges of R186: the tile counts and WIDTH·HEIGHT in every state, ragged image or not; and where the
layout is defined no index, offset or length reaches 2^30, so no 32-bit register wraps. -/
def Obligations.OffsetsAndLengthsFit : Prop :=
  (∀ s : State,
    s.width.toNat / 8 ≤ 4095 ∧ s.height.toNat / 8 ≤ 4095 ∧ s.width.toNat / 16 ≤ 2047 ∧
    s.height.toNat / 16 ≤ 2047 ∧ s.width.toNat * s.height.toNat ≤ 1073676289) ∧
  ∀ s : State, LegalTileSize s → legalBpp (bppEff s) → geometryOk s →
    (s.tilesz = 8#5 → totalSlots s ≤ 16769025 ∧ totalLen s ≤ 1073217600) ∧
    (s.tilesz = 16#5 →
      (s.width.toNat / 16) * (s.height.toNat / 16) ≤ 4190209 ∧
      ceil8 (s.width.toNat / 16 * (s.height.toNat / 16)) ≤ 523777 ∧ totalSlots s ≤ 16760864 ∧
      totalLen s ≤ 1072695296) ∧
    (∀ tx ty, inGrid tx ty s → tileIndex tx ty s < totalSlots s ∧ tileOffset tx ty s + bpt s ≤ totalLen s) ∧
    totalLen s < 2 ^ 30

/-- For WIDTH = 128 the two modes give every subtile the index 16·ty + tx and the same total length (R194
b). The tile indices and the number of slots do not depend on the bitplane count, and every offset and
length is that index or number times the bytes of a tile (R194 d). -/
def Obligations.ModesAgreeAtWidth128 : Prop :=
  (∀ s s' : State, s.width.toNat = 128 → s'.width.toNat = 128 → s.height = s'.height →
    s.tilesz = 8#5 → s'.tilesz = 16#5 → geometryOk s → geometryOk s' → bppEff s = bppEff s' →
    (∀ tx ty, inGrid tx ty s → tileIndex tx ty s = 16 * ty + tx ∧ tileIndex tx ty s' = 16 * ty + tx) ∧
    totalLen s = totalLen s') ∧
  (∀ s s' : State, s.tilesz = s'.tilesz → s.width = s'.width → s.height = s'.height →
    (∀ tx ty, tileIndex tx ty s = tileIndex tx ty s' ∧
      tileOffset tx ty s * (8 * bppEff s') = tileOffset tx ty s' * (8 * bppEff s)) ∧
    totalSlots s = totalSlots s' ∧
    totalLen s * (8 * bppEff s') = totalLen s' * (8 * bppEff s)) ∧
  (∀ (s : State) (tx ty : Nat),
    tileOffset tx ty s = tileIndex tx ty s * (8 * bppEff s) ∧
    totalLen s = totalSlots s * (8 * bppEff s))

/-- TADDR (R188, with the placement formulas of R181 and R183): the offset, the flag, that nothing else
changes; BadConfig, then OutOfBounds. -/
def Obligations.TaddrComputesTheOffset : Prop :=
  ∀ (tx ty : BitVec 14) (s : State),
    let inside := geometryOk s ∧ tx.toNat < s.width.toNat / 8 ∧ ty.toNat < s.height.toNat / 8
    let offset := slotOf s.width.toNat s.tilesz.toNat tx.toNat ty.toNat * (8 * bppEff s)
    (encode (.taddr tx ty)).toNat = 0x90000000 + ty.toNat * 2 ^ 14 + tx.toNat ∧
    (¬ legalBpp (bppEff s) → RaisesBadBpp (exec (.taddr tx ty) s) s) ∧
    (legalBpp (bppEff s) → ¬ inside →
      Raises (exec (.taddr tx ty) s) s 2#4 (BitVec.ofNat 32 tx.toNat) (BitVec.ofNat 32 ty.toNat)) ∧
    (legalBpp (bppEff s) → inside →
      Answers (exec (.taddr tx ty) s)
        { s with addr := some (BitVec.ofNat 32 offset), status := { s.status with av := true } } 0#4
        (BitVec.ofNat 32 offset))

/-- TSTORE (R189): the `bpt()` bytes from ADDR take ETILE, every other byte and everything else is
unchanged; BadConfig, NotReady, Capacity in that order. -/
def Obligations.TstoreWritesTheTile : Prop :=
  encode .tstore = 0xA0000000#32 ∧
  ∀ s : State,
    (¬ legalBpp (bppEff s) → RaisesBadBpp (exec .tstore s) s) ∧
    (legalBpp (bppEff s) → s.status.ev = false ∨ s.status.av = false →
      RaisesNotReady (exec .tstore s) s) ∧
    ∀ a, s.addr = some a → legalBpp (bppEff s) → s.status.ev = true → s.status.av = true →
      (s.params.vramSize < a.toNat + 8 * bppEff s →
        Raises (exec .tstore s) s 7#4 (BitVec.ofNat 32 (a.toNat + 8 * bppEff s))
          (BitVec.ofNat 32 s.params.vramSize)) ∧
      (a.toNat + 8 * bppEff s ≤ s.params.vramSize →
        ∃ t, exec .tstore s = .next t ∧
          t = { s with
            vram := t.vram, response := some { status := 0#4, data := a }, draws := t.draws } ∧
          ∀ x, t.vram.read x =
            if a.toNat ≤ x ∧ x < a.toNat + 8 * bppEff s then s.etile.read (x - a.toNat)
            else s.vram.read x)

/-- VLEN (R190, with the total length of R185): no capacity test; BadConfig, then OutOfBounds. -/
def Obligations.VlenComputesTheLength : Prop :=
  encode .vlen = 0xB0000000#32 ∧
  ∀ s : State,
    let length := lengthOf s.width.toNat s.height.toNat s.tilesz.toNat (8 * bppEff s)
    (¬ legalBpp (bppEff s) → RaisesBadBpp (exec .vlen s) s) ∧
    (legalBpp (bppEff s) → ¬ geometryOk s →
      Raises (exec .vlen s) s 2#4 (BitVec.ofNat 32 s.width.toNat) (BitVec.ofNat 32 s.height.toNat)) ∧
    (legalBpp (bppEff s) → geometryOk s →
      Answers (exec .vlen s)
        { s with vlen := some (BitVec.ofNat 32 length), status := { s.status with lv := true } } 0#4
        (BitVec.ofNat 32 length))

/-- VCLR (R191): the bytes below the length become 0, every other byte and everything else but VLEN and LV
is unchanged; BadConfig, OutOfBounds, Capacity in that order. -/
def Obligations.VclrZeroesTheImage : Prop :=
  encode .vclr = 0xC0000000#32 ∧
  ∀ s : State,
    let length := lengthOf s.width.toNat s.height.toNat s.tilesz.toNat (8 * bppEff s)
    (¬ legalBpp (bppEff s) → RaisesBadBpp (exec .vclr s) s) ∧
    (legalBpp (bppEff s) → ¬ geometryOk s →
      Raises (exec .vclr s) s 2#4 (BitVec.ofNat 32 s.width.toNat) (BitVec.ofNat 32 s.height.toNat)) ∧
    (legalBpp (bppEff s) → geometryOk s → s.params.vramSize < length →
      Raises (exec .vclr s) s 7#4 (BitVec.ofNat 32 length) (BitVec.ofNat 32 s.params.vramSize)) ∧
    (legalBpp (bppEff s) → geometryOk s → length ≤ s.params.vramSize →
      ∃ t, exec .vclr s = .next t ∧
        t = { s with
          vram := t.vram, vlen := some (BitVec.ofNat 32 length)
          status := { s.status with lv := true }
          response := some { status := 0#4, data := BitVec.ofNat 32 length }, draws := t.draws } ∧
        ∀ x, t.vram.read x = if x < length then some 0#8 else s.vram.read x)

/-- CVTIMG when it raises no error (R192): every subtile's bytes are its encoding at its offset, every
other byte below the length is 0, bytes above it are unchanged, TILE, ETILE and ADDR hold no value.
Bytes of a row with a pixel that holds no value are the subject of UnwrittenPixelsVoidTheirRows. -/
def Obligations.CvtimgConvertsTheImage : Prop :=
  ∀ s : State, LegalTileSize s → legalBpp (bppEff s) → geometryOk s →
    s.width.toNat * s.height.toNat ≤ s.params.pixSize →
    let width := s.width.toNat
    let bytes := 8 * bppEff s
    let length := lengthOf width s.height.toNat s.tilesz.toNat bytes
    length ≤ s.params.vramSize →
    ∃ t, exec .cvtimg s = .next t ∧
      t = { s with
        vram := t.vram, vlen := some (BitVec.ofNat 32 length), addr := none, tile := [], etile := []
        status := { s.status with tv := false, ev := false, av := false, lv := true }
        response := some { status := 0#4, data := BitVec.ofNat 32 length }, draws := t.draws } ∧
      (∀ tx ty p row k, tx < width / 8 → ty < s.height.toNat / 8 → p < bppEff s / 2 → row < 8 → k < 2 →
        PackedByte
          (t.vram.read (slotOf width s.tilesz.toNat tx ty * bytes + (16 * p + 2 * row + k)))
          (fun col => s.pix.read ((8 * ty + row) * width + 8 * tx + col)) (2 * p + k)) ∧
      (∀ a, a < length →
        (∀ tx ty, tx < width / 8 → ty < s.height.toNat / 8 →
          a < slotOf width s.tilesz.toNat tx ty * bytes ∨
            slotOf width s.tilesz.toNat tx ty * bytes + bytes ≤ a) →
        t.vram.read a = some 0#8) ∧
      ∀ a, length ≤ a → t.vram.read a = s.vram.read a

/-- The errors of CVTIMG and their order (R192, R232): BadConfig, OutOfBounds, Capacity of PIX, Capacity
of VRAM. -/
def Obligations.CvtimgRaisesInOrder : Prop :=
  encode .cvtimg = 0xD0000000#32 ∧
  ∀ s : State,
    let cells := s.width.toNat * s.height.toNat
    let length := lengthOf s.width.toNat s.height.toNat s.tilesz.toNat (8 * bppEff s)
    (¬ legalBpp (bppEff s) → RaisesBadBpp (exec .cvtimg s) s) ∧
    (legalBpp (bppEff s) → ¬ geometryOk s →
      Raises (exec .cvtimg s) s 2#4 (BitVec.ofNat 32 s.width.toNat) (BitVec.ofNat 32 s.height.toNat)) ∧
    (legalBpp (bppEff s) → geometryOk s → s.params.pixSize < cells →
      Raises (exec .cvtimg s) s 7#4 (BitVec.ofNat 32 cells) (BitVec.ofNat 32 s.params.pixSize)) ∧
    (legalBpp (bppEff s) → geometryOk s → cells ≤ s.params.pixSize → s.params.vramSize < length →
      Raises (exec .cvtimg s) s 7#4 (BitVec.ofNat 32 length) (BitVec.ofNat 32 s.params.vramSize))

/-- The net effect of CVTTILE when none of its four commands raises an error (R193). -/
def Obligations.CvttileHasItsNetEffect : Prop :=
  ∀ (s : State) (tx ty : BitVec 14), ¬ s.halted → LegalTileSize s → legalBpp (bppEff s) → geometryOk s →
    inGrid tx.toNat ty.toNat s → matrixCells s ≤ s.params.pixSize →
    tileOffset tx.toNat ty.toNat s + bpt s ≤ s.params.vramSize →
    ∃ t, executeAll ((cvttile tx ty).map encode) s = .next t ∧
      t = { s with
        vram := t.vram, tile := t.tile, etile := t.etile
        addr := some (toWord (tileOffset tx.toNat ty.toNat s))
        status := { s.status with tv := true, ev := true, av := true }
        response := some { status := 0#4, data := toWord (tileOffset tx.toNat ty.toNat s) }
        draws := t.draws } ∧
      (∀ i, t.tile.read i = ((extract tx.toNat ty.toNat s)[i]?).join) ∧
      (∀ i, t.etile.read i = ((encodeTile t.tile.read (bppEff s))[i]?).join) ∧
      ∀ a, t.vram.read a =
        if tileOffset tx.toNat ty.toNat s ≤ a ∧ a < tileOffset tx.toNat ty.toNat s + bpt s then
          t.etile.read (a - tileOffset tx.toNat ty.toNat s)
        else s.vram.read a

/-- CVTIMG equals VCLR followed by CVTTILE for every subtile, in any order (R75, R192). -/
def Obligations.CvtimgEqualsTileByTile : Prop :=
  ∀ (s : State) (order : List (Nat × Nat)), ¬ s.halted → s.vram.wf → LegalTileSize s →
    legalBpp (bppEff s) → geometryOk s → matrixCells s ≤ s.params.pixSize →
    totalLen s ≤ s.params.vramSize →
    ListsSubtiles order s →
    ∃ t u, exec .cvtimg s = .next t ∧ executeAll ((tileByTile order).map encode) s = .next u ∧
      u.vram = t.vram ∧ u.vlen = t.vlen ∧ ¬ u.halted

/-- Stale buffers are refused (R256): after a successful SETCFG of x[0..4], CVTIMG or RESET, TENC and
TSTORE raise NotReady, and after a successful TLOAD so does TSTORE. -/
def Obligations.StaleBuffersAreRefused : Prop :=
  ∀ (i : Instr) (s t : State) (r : Response), exec i s = .next t → t.response = some r →
    r.status = 0#4 → legalBpp (bppEff t) →
    (WritesGeometry i ∨ i = .cvtimg ∨ i = .reset →
      RaisesNotReady (exec .tenc t) t ∧ RaisesNotReady (exec .tstore t) t) ∧
    ((∃ tx ty, i = .tload tx ty) → RaisesNotReady (exec .tstore t) t)

/-! ### The host memory port -/

/-- The rights of the host (R70): a HostWrite to PIX or COL below its size stores the value in that cell
and changes nothing else; a HostRead below a space's size returns the cell and changes nothing. -/
def Obligations.HostTransactionsMoveOneCell : Prop :=
  ∀ (s : State) (addr : Word) (rest : List HostEvent),
    (∀ value, addr.toNat < s.params.pixSize → value < 2 ^ 8 →
      s.port = .hostWrite 0#4 addr value :: rest →
      ∃ t, step s = .next t ∧
        t = { s with pix := t.pix, port := rest, answer := some .written, draws := t.draws } ∧
        ∀ a, t.pix.read a = if a = addr.toNat then some (BitVec.ofNat 8 value) else s.pix.read a) ∧
    (∀ value, addr.toNat < 256 → value < 2 ^ 24 → s.port = .hostWrite 1#4 addr value :: rest →
      ∃ t, step s = .next t ∧
        t = { s with col := t.col, port := rest, answer := some .written, draws := t.draws } ∧
        ∀ a, t.col.read a = if a = addr.toNat then some (BitVec.ofNat 24 value) else s.col.read a) ∧
    (∀ space : BitVec 4,
      (space.toNat = 0 ∧ addr.toNat < s.params.pixSize) ∨ (space.toNat = 1 ∧ addr.toNat < 256) ∨
        (space.toNat = 2 ∧ addr.toNat < s.params.palEntries) ∨
        (space.toNat = 3 ∧ addr.toNat < s.params.vramSize) ∨ (space.toNat = 4 ∧ addr.toNat < 64) ∨
        (space.toNat = 5 ∧ addr.toNat < 64) ∨
        (space.toNat = 6 ∧ addr.toNat < 2 * s.params.palEntries) →
      s.port = .hostRead space addr :: rest →
      ∃ t v, step s = .next t ∧
        t = { s with port := rest, answer := some (.read v), draws := t.draws } ∧
        (space.toNat = 0 → ∀ c, s.pix.read addr.toNat = some c → v = c.toNat) ∧
        (space.toNat = 1 → ∀ c, s.col.read addr.toNat = some c → v = c.toNat) ∧
        (space.toNat = 2 → ∀ c, s.pal.read addr.toNat = some c → v = c.toNat) ∧
        (space.toNat = 3 → ∀ c, s.vram.read addr.toNat = some c → v = c.toNat) ∧
        (space.toNat = 4 → ∀ c, s.tile.read addr.toNat = some c → v = c.toNat) ∧
        (space.toNat = 5 → ∀ c, s.etile.read addr.toNat = some c → v = c.toNat) ∧
        (space.toNat = 6 → ∀ c, s.pal.read (addr.toNat / 2) = some c →
          v = if addr.toNat % 2 = 0 then c.toNat % 256 else c.toNat / 256))

/-- PALB is PAL seen as bytes, low byte first (R63). -/
def Obligations.PaletteBytesAreLittleEndian : Prop :=
  ∀ (s : State) (i : Nat) (c : HwColour) (addr : Word), i < s.params.palEntries → s.pal.read i = some c →
    (addr.toNat = 2 * i →
      ∃ t, hostRead 6#4 addr s = .next t ∧ t.answer = some (.read (c.toNat % 256))) ∧
    (addr.toNat = 2 * i + 1 →
      ∃ t, hostRead 6#4 addr s = .next t ∧ t.answer = some (.read (c.toNat / 256)))

/-- The refused transactions of R71 answer `ok = false` and change no state. -/
def Obligations.HostRefusalsChangeNothing : Prop :=
  ∀ (s : State) (space : BitVec 4) (addr : Word) (rest : List HostEvent),
    let size := match space.toNat with
      | 0 => s.params.pixSize
      | 1 => 256
      | 2 => s.params.palEntries
      | 3 => s.params.vramSize
      | 4 => 64
      | 5 => 64
      | 6 => 2 * s.params.palEntries
      | _ => 0
    (7 ≤ space.toNat ∨ size ≤ addr.toNat → s.port = .hostRead space addr :: rest →
      ∃ t, step s = .next t ∧
        t = { s with port := rest, answer := some .refused, draws := t.draws }) ∧
    (∀ value, 2 ≤ space.toNat ∨ size ≤ addr.toNat ∨ (space.toNat = 0 ∧ 2 ^ 8 ≤ value) ∨
        (space.toNat = 1 ∧ 2 ^ 24 ≤ value) → s.port = .hostWrite space addr value :: rest →
      ∃ t, step s = .next t ∧
        t = { s with port := rest, answer := some .refused, draws := t.draws })

/-- PIX and COL are written only by the host through its port (R43), and PAL, VRAM, TILE and ETILE only by
commands and a power-on reset (R44): no command writes the first two, no transaction the others. -/
def Obligations.EachMemoryHasItsWriter : Prop :=
  (∀ (w : Word) (s t : State), execute w s = .next t → t.pix = s.pix ∧ t.col = s.col) ∧
  (∀ (e : HostEvent) (s t : State),
    (∃ space addr, e = .hostRead space addr) ∨ (∃ space addr value, e = .hostWrite space addr value) →
    handleEvent e s = .next t →
    t = { s with pix := t.pix, col := t.col, answer := t.answer, draws := t.draws })

/-! ### Invariants -/

/-- The invariant holds after a power-on reset (R47, R251). -/
def Obligations.ResetMeetsTheInvariant : Prop := State.reset.Inv

/-- Every step keeps the invariant: legal configuration, canonical memories inside their spaces, a legal
error code, every flag telling the truth about what it guards, legal responses (R6, R23 to R44, R46). -/
def Obligations.StepKeepsTheInvariant : Prop :=
  ∀ s t : State, s.Inv → step s = .next t → t.Inv

/-- Every step keeps the configuration registers at legal values (R24, R26, R28), from any such state. -/
def Obligations.ConfigurationStaysLegal : Prop :=
  ∀ s t : State, s.ConfigLegal → step s = .next t → t.ConfigLegal ∧ t.params = s.params

/-- Steps whose every response has status 0 end not halted, from any state that is not halted; so a run from
a reset has succeeded exactly when every response had status 0 (R260). -/
def Obligations.AllResponsesOkMeansSuccess : Prop :=
  (∀ (k : Nat) (s : State), ¬ s.halted → ResponsesOk k s → RunSucceeded k s) ∧
  (∀ r : Run, r.Legal → (r.Succeeded ↔ ResponsesOk r.events.length r.initial)) ∧
  ∀ r : Run, ∃ t, r.result = .next t ∧ t.port = []

/-! ### Memory spaces, padding, the open DUP bit, and the artifacts of a run -/

/-- Every space is plain memory private to the block (R77, R68, R238): a step changes a cell only by a command
that touches a space, by a HostWrite of that cell or by a power-on reset, so no step with no event and no
HostRead does; and two reads of a cell that holds a value, with no write between, answer that value. -/
def Obligations.SpacesArePlainPrivateMemory : Prop :=
  (∀ s t : State, step s = .next t →
    (s.port = [] ∨ ∃ space addr rest, s.port = .hostRead space addr :: rest) →
    t.pix = s.pix ∧ t.col = s.col ∧ t.pal = s.pal ∧ t.vram = s.vram ∧ t.tile = s.tile ∧
      t.etile = s.etile) ∧
  (∀ (s t : State) (space : BitVec 4) (addr : Word) (value : Nat) (rest : List HostEvent),
    step s = .next t → s.port = .hostWrite space addr value :: rest →
    t.pal = s.pal ∧ t.vram = s.vram ∧ t.tile = s.tile ∧ t.etile = s.etile ∧
      (∀ a, space.toNat ≠ 0 ∨ a ≠ addr.toNat → t.pix.read a = s.pix.read a) ∧
      ∀ a, space.toNat ≠ 1 ∨ a ≠ addr.toNat → t.col.read a = s.col.read a) ∧
  (∀ (i : Instr) (s t : State), exec i s = .next t → TouchesNoSpace i →
    t.pix = s.pix ∧ t.col = s.col ∧ t.pal = s.pal ∧ t.vram = s.vram ∧ t.tile = s.tile ∧
      t.etile = s.etile) ∧
  ∀ (s : State) (space : BitVec 4) (addr : Word) (v : Nat), addr.toNat < cellCount s space.toNat →
    cellValue s space.toNat addr.toNat = some v →
    ∃ t u, hostRead space addr s = .next t ∧ hostRead space addr t = .next u ∧
      t.answer = some (.read v) ∧ u.answer = some (.read v)

/-- The length and the padding of the Palette (R144). -/
def Obligations.CvtpalPadsWithZeroWords : Prop :=
  ∀ s : State,
    let size := s.padctl.toNat % 65536
    (s.padctl.getLsbD 16 = false → s.ncol.toNat ≤ s.params.palEntries →
      ∃ t, exec .cvtpal s = .next t ∧ t.pallen = some (BitVec.ofNat 16 s.ncol.toNat) ∧
        ∀ a, s.ncol.toNat ≤ a → t.pal.read a = s.pal.read a) ∧
    (s.padctl.getLsbD 16 = true → s.ncol.toNat ≤ size → size ≤ s.params.palEntries →
      ∃ t, exec .cvtpal s = .next t ∧ t.pallen = some (BitVec.ofNat 16 size) ∧
        ∀ a, s.ncol.toNat ≤ a →
          t.pal.read a = if a < size then some (hwcolor 0#8 0#8 0#8) else s.pal.read a) ∧
    hwcolor 0#8 0#8 0#8 = 0#16

/-- When DUP holds no value (R143), a read of STATUS by RDREG, the response of CLRST, the information of
NotReady and the response of CVTPAL have one bit open, DUP's, and their other bits as the rules say: the
model's choice (DESIGN CHOICE: notes/assumptions/6). -/
def Obligations.UnknownDupFreesOneBit : Prop :=
  (∀ s : State, ∃ dup, ShowsDup s dup ∧
    Answers (exec (.rdreg 8#4) s) s 0#4 (statusValue s.status dup) ∧
    Answers (exec .clrst s) { s with status := { s.status with err := 0#4 } } 0#4
      (statusValue s.status dup) ∧
    (legalBpp (bppEff s) → s.status.tv = false →
      Raises (exec .tenc s) s 6#4 (statusValue s.status dup) 0#32) ∧
    (legalBpp (bppEff s) → s.status.ev = false ∨ s.status.av = false →
      Raises (exec .tstore s) s 6#4 (statusValue s.status dup) 0#32)) ∧
  (∀ s t : State, ¬ Overflows s → outLength s ≤ s.params.palEntries → exec .cvtpal s = .next t →
    ∃ dup, ShowsDup t dup ∧
      t.response = some { status := 0#4, data := BitVec.ofNat 32 (outLength s + 65536 * dup.toNat) })

/-- The artifacts of a run (R260): a run from a reset with only OK responses, gone on with CVTIMG, has a
VramImage as its artifact, and the same one when gone on with VCLR and one CVTTILE per subtile in any order,
also with other events between them that write neither VRAM nor PIX nor the tile path's configuration (as
long as their responses are OK); gone on with CVTPAL it has the Palette. When an image counts as
produced is the model's reading (notes/assumptions/19). -/
def Obligations.RunsLeaveTheirArtifacts : Prop :=
  ∀ (r : Run) (s : State), r.Legal → ResponsesOk r.events.length r.initial → r.result = .next s →
    (legalBpp (bppEff s) → geometryOk s → matrixCells s ≤ s.params.pixSize →
      totalLen s ≤ s.params.vramSize →
      ∃ (t : State) (image : List (Option Byte)), exec .cvtimg s = .next t ∧
        image.length = totalLen s ∧ (∀ a, a < totalLen s → image[a]? = some (t.vram.read a)) ∧
        Run.ImageArtifact { r with events := r.events ++ issue [.cvtimg] } image ∧
        (∀ order, ListsSubtiles order s →
          Run.ImageArtifact { r with events := r.events ++ issue (tileByTile order) } image) ∧
        ∀ (spaced : List (List HostEvent × Subtile)) (last : List HostEvent),
          ListsSubtiles (spaced.map Prod.snd) s →
          (∀ p ∈ spaced, ∀ e ∈ p.1, QuietEvent e) → (∀ e ∈ last, QuietEvent e) →
          let whole : Run := { r with events := r.events ++ (spacedTiles spaced ++ last) }
          ResponsesOk whole.events.length whole.initial → whole.ImageArtifact image) ∧
    (¬ Overflows s → outLength s ≤ s.params.palEntries →
      ∃ (t : State) (words : List (Option HwColour)), exec .cvtpal s = .next t ∧
        words.length = outLength s ∧ (∀ a, a < outLength s → words[a]? = some (t.pal.read a)) ∧
        Run.PaletteArtifact { r with events := r.events ++ issue [.cvtpal] } words)
end

