-- ==== Sys2Proof/Laws/Encoding.lean ====
section
/-!
SUPPORT. The fields and words of an encoding as numbers, so that a round trip is linear arithmetic.
-/

namespace Sys2Proof

/-- A concatenation as a number: the high part times the weight of the low part, plus the low part. -/
theorem toNat_append_eq_add {m n : Nat} (x : BitVec m) (y : BitVec n) :
    (x ++ y).toNat = x.toNat * 2 ^ n + y.toNat := by
  rw [BitVec.toNat_append, ← Nat.shiftLeft_add_eq_or_of_lt y.isLt, Nat.shiftLeft_eq]

/-- A field as a number. -/
theorem toNat_field (w : Word) (lo len : Nat) :
    (w.extractLsb' lo len).toNat = w.toNat / 2 ^ lo % 2 ^ len := by
  simp [BitVec.extractLsb'_toNat, Nat.shiftRight_eq_div_pow]

theorem encodeZ_toNat (op : BitVec 4) : (encodeZ op).toNat = op.toNat * 2 ^ 28 := by
  have h := toNat_append_eq_add op 0#28
  simpa [encodeZ] using h

theorem encode_setcfg_toNat (reg : BitVec 4) (imm : BitVec 24) :
    (encode (.setcfg reg imm)).toNat = 2 ^ 28 + reg.toNat * 2 ^ 24 + imm.toNat := by
  have h := toNat_append_eq_add (0x1#4 ++ reg) imm
  simp only [encode]
  refine h.trans ?_
  simp only [toNat_append_eq_add, BitVec.toNat_ofNat]
  omega

theorem encode_rdreg_toNat (reg : BitVec 4) :
    (encode (.rdreg reg)).toNat = 2 * 2 ^ 28 + reg.toNat * 2 ^ 24 := by
  have h := toNat_append_eq_add (0x2#4 ++ reg) 0#24
  simp only [encode]
  refine h.trans ?_
  simp only [toNat_append_eq_add, BitVec.toNat_ofNat]
  omega

theorem encode_cvtcol_toNat (r g b : Byte) :
    (encode (.cvtcol r g b)).toNat =
      5 * 2 ^ 28 + r.toNat * 2 ^ 16 + g.toNat * 2 ^ 8 + b.toNat := by
  have h := toNat_append_eq_add (0x5#4 ++ 0#4 ++ r ++ g) b
  simp only [encode]
  refine h.trans ?_
  simp only [toNat_append_eq_add, BitVec.toNat_ofNat]
  omega

theorem encodeT_toNat (op : BitVec 4) (tx ty : BitVec 14) :
    (encodeT op tx ty).toNat = op.toNat * 2 ^ 28 + ty.toNat * 2 ^ 14 + tx.toNat := by
  have h := toNat_append_eq_add (op ++ ty) tx
  refine h.trans ?_
  rw [toNat_append_eq_add]
  omega

theorem opField_toNat (w : Word) : (opField w).toNat = w.toNat / 2 ^ 28 := by
  have := w.isLt
  rw [opField, toNat_field]
  omega

theorem regField_toNat (w : Word) : (regField w).toNat = w.toNat / 2 ^ 24 % 16 := toNat_field w 24 4

theorem immField_toNat (w : Word) : (immField w).toNat = w.toNat % 2 ^ 24 := by
  rw [immField, toNat_field, Nat.pow_zero, Nat.div_one]

theorem zField_toNat (w : Word) : (zField w).toNat = w.toNat % 2 ^ 28 := by
  rw [zField, toNat_field, Nat.pow_zero, Nat.div_one]

theorem redField_toNat (w : Word) : (redField w).toNat = w.toNat / 2 ^ 16 % 256 := toNat_field w 16 8

theorem greenField_toNat (w : Word) : (greenField w).toNat = w.toNat / 2 ^ 8 % 256 := toNat_field w 8 8

theorem blueField_toNat (w : Word) : (blueField w).toNat = w.toNat % 2 ^ 8 := by
  rw [blueField, toNat_field, Nat.pow_zero, Nat.div_one]

theorem txField_toNat (w : Word) : (txField w).toNat = w.toNat % 2 ^ 14 := by
  rw [txField, toNat_field, Nat.pow_zero, Nat.div_one]

theorem tyField_toNat (w : Word) : (tyField w).toNat = w.toNat / 2 ^ 14 % 2 ^ 14 := toNat_field w 14 14

end Sys2Proof
end

