-- ==== Sys2Proof/Laws/Memory.lean ====
section
/-!
SUPPORT. The laws of a memory space: what a cell reads as after a run is written, and that every
operation keeps the canonical form and the bound of the space.
-/

namespace Sys2Proof.Machine

variable {w : Nat}

@[simp] theorem Memory.read_nil (a : Nat) : Memory.read ([] : Memory w) a = none := rfl

theorem Memory.read_cons (k : Nat) (v : BitVec w) (m : Memory w) (a : Nat) :
    Memory.read ((k, v) :: m) a = if k = a then some v else Memory.read m a := rfl

theorem Memory.read_append (m n : Memory w) (a : Nat) :
    Memory.read (m ++ n) a = (Memory.read m a).or (Memory.read n a) := by
  induction m with
  | nil => simp
  | cons c m ih =>
    obtain ⟨k, v⟩ := c
    by_cases h : k = a <;> simp [Memory.read_cons, h, ih]

theorem Memory.read_filter (m : Memory w) (p : Nat → Bool) (a : Nat) :
    Memory.read (m.filter fun c => p c.1) a = if p a then Memory.read m a else none := by
  induction m with
  | nil => simp
  | cons c m ih =>
    obtain ⟨k, v⟩ := c
    by_cases hp : p k <;> by_cases hk : k = a <;> simp_all [Memory.read_cons]

theorem Memory.read_eq_none_of_not_listed (m : Memory w) (a : Nat) (h : ∀ c ∈ m, c.1 ≠ a) :
    Memory.read m a = none := by
  induction m with
  | nil => rfl
  | cons c m ih =>
    obtain ⟨k, v⟩ := c
    simp only [List.mem_cons, forall_eq_or_imp] at h
    simp [Memory.read_cons, h.1, ih h.2]

/-- Every cell of a run lies in the run. -/
theorem Memory.cells_range (base : Nat) (vs : List (Option (BitVec w))) :
    ∀ c ∈ Memory.cells base vs, base ≤ c.1 ∧ c.1 < base + vs.length := by
  induction vs generalizing base with
  | nil => simp [Memory.cells]
  | cons v vs ih =>
    cases v with
    | none =>
      intro c hc
      have := ih (base + 1) c hc
      simp only [List.length_cons]
      omega
    | some v =>
      intro c hc
      simp only [Memory.cells, List.mem_cons] at hc
      rcases hc with rfl | hc
      · simp
      · have := ih (base + 1) c hc
        simp only [List.length_cons]
        omega

theorem Memory.read_cells (base : Nat) (vs : List (Option (BitVec w))) (a : Nat) :
    Memory.read (Memory.cells base vs) a = if base ≤ a then (vs[a - base]?).join else none := by
  induction vs generalizing base with
  | nil => simp [Memory.cells]
  | cons v vs ih =>
    rcases Nat.lt_trichotomy a base with h | rfl | h
    · have hn : ¬ base ≤ a := by omega
      have hn' : ¬ base + 1 ≤ a := by omega
      have hk : base ≠ a := by omega
      cases v <;> simp [Memory.cells, Memory.read_cons, ih, hn, hn', hk]
    · have hn' : ¬ a + 1 ≤ a := by omega
      cases v <;> simp [Memory.cells, Memory.read_cons, ih, hn']
    · have h1 : base ≤ a := by omega
      have h2 : base + 1 ≤ a := by omega
      have hk : base ≠ a := by omega
      obtain ⟨d, rfl⟩ : ∃ d, a = base + 1 + d := ⟨a - (base + 1), by omega⟩
      have e : base + 1 + d - base = d + 1 := by omega
      cases v <;> simp [Memory.cells, Memory.read_cons, ih, h1, h2, hk, e]

/-- What a cell reads as after a run is written: the run's value inside it, the old value outside. -/
theorem Memory.read_writeRange (m : Memory w) (base : Nat) (vs : List (Option (BitVec w))) (a : Nat) :
    (m.writeRange base vs).read a =
      if base ≤ a ∧ a < base + vs.length then (vs[a - base]?).join else m.read a := by
  unfold Memory.writeRange
  rw [Memory.read_append, Memory.read_append, Memory.read_cells,
    Memory.read_filter m (fun k => k < base) a, Memory.read_filter m (fun k => base + vs.length ≤ k) a]
  by_cases h1 : base ≤ a
  · by_cases h2 : a < base + vs.length
    · have h3 : ¬ a < base := by omega
      have h4 : ¬ base + vs.length ≤ a := by omega
      simp [h1, h2, h3, h4]
    · have h3 : ¬ a < base := by omega
      have h4 : base + vs.length ≤ a := by omega
      have h5 : vs[a - base]? = none := List.getElem?_eq_none (by omega)
      simp [h2, h3, h4, h5]
  · have h3 : a < base := by omega
    have h4 : ¬ base + vs.length ≤ a := by omega
    simp [h1, h3, h4]

theorem Memory.read_writeRange_of_outside (m : Memory w) (base : Nat) (vs : List (Option (BitVec w)))
    (a : Nat) (h : a < base ∨ base + vs.length ≤ a) : (m.writeRange base vs).read a = m.read a := by
  rw [Memory.read_writeRange, if_neg (by omega)]

theorem Memory.read_writeRange_of_inside (m : Memory w) (base : Nat) (vs : List (Option (BitVec w)))
    (i : Nat) (h : i < vs.length) : (m.writeRange base vs).read (base + i) = vs[i] := by
  rw [Memory.read_writeRange, if_pos (by omega)]
  simp [h]

theorem Memory.read_write (m : Memory w) (a : Nat) (v : BitVec w) (b : Nat) :
    (m.write a v).read b = if b = a then some v else m.read b := by
  unfold Memory.write
  rw [Memory.read_writeRange]
  by_cases h : b = a
  · simp [h]
  · rw [if_neg h, if_neg (by simp only [List.length_cons, List.length_nil]; omega)]

theorem Memory.wf_cells (base : Nat) (vs : List (Option (BitVec w))) : (Memory.cells base vs).wf := by
  induction vs generalizing base with
  | nil => exact List.Pairwise.nil
  | cons v vs ih =>
    cases v with
    | none => exact ih (base + 1)
    | some v =>
      refine List.Pairwise.cons (fun c hc => ?_) (ih (base + 1))
      have := (Memory.cells_range (base + 1) vs c hc).1
      show base < c.1
      omega

/-- Writing a run keeps the canonical form. -/
theorem Memory.wf_writeRange (m : Memory w) (base : Nat) (vs : List (Option (BitVec w))) (h : m.wf) :
    (m.writeRange base vs).wf := by
  unfold Memory.writeRange Memory.wf
  rw [List.pairwise_append, List.pairwise_append]
  refine ⟨⟨List.Pairwise.filter _ h, Memory.wf_cells base vs, ?_⟩, List.Pairwise.filter _ h, ?_⟩
  · intro c hc d hd
    have h1 := (List.mem_filter.mp hc).2
    have h2 := (Memory.cells_range base vs d hd).1
    simp only [decide_eq_true_eq] at h1
    omega
  · intro c hc d hd
    have h2 := (List.mem_filter.mp hd).2
    simp only [decide_eq_true_eq] at h2
    rcases List.mem_append.mp hc with hc | hc
    · have h1 := (List.mem_filter.mp hc).2
      simp only [decide_eq_true_eq] at h1
      omega
    · have h1 := (Memory.cells_range base vs c hc).2
      omega

theorem Memory.wf_write (m : Memory w) (a : Nat) (v : BitVec w) (h : m.wf) : (m.write a v).wf :=
  Memory.wf_writeRange m a _ h

/-- Writing a run inside a space keeps every listed address inside it. -/
theorem Memory.below_writeRange (m : Memory w) (base : Nat) (vs : List (Option (BitVec w))) (n : Nat)
    (h : m.below n) (hr : base + vs.length ≤ n) : (m.writeRange base vs).below n := by
  intro c hc
  unfold Memory.writeRange at hc
  rcases List.mem_append.mp hc with hc | hc
  · rcases List.mem_append.mp hc with hc | hc
    · exact h c (List.mem_filter.mp hc).1
    · have := (Memory.cells_range base vs c hc).2
      omega
  · exact h c (List.mem_filter.mp hc).1

theorem Memory.below_write (m : Memory w) (a : Nat) (v : BitVec w) (n : Nat) (h : m.below n)
    (ha : a < n) : (m.write a v).below n :=
  Memory.below_writeRange m a _ n h (by simpa using ha)

theorem Memory.wf_nil : Memory.wf ([] : Memory w) := List.Pairwise.nil

theorem Memory.below_nil (n : Nat) : Memory.below ([] : Memory w) n := by simp

/-- A cell outside the listed bound holds no value. -/
theorem Memory.read_of_below (m : Memory w) (n a : Nat) (h : m.below n) (ha : n ≤ a) :
    m.read a = none :=
  Memory.read_eq_none_of_not_listed m a fun c hc e => by have := h c hc; omega

/-- Two memories in canonical form that read the same everywhere are equal data. -/
theorem Memory.ext_read (m n : Memory w) (hm : m.wf) (hn : n.wf) (h : ∀ a, m.read a = n.read a) :
    m = n := by
  induction m generalizing n with
  | nil =>
    cases n with
    | nil => rfl
    | cons c n =>
      have := h c.1
      simp [Memory.read] at this
  | cons c m ih =>
    obtain ⟨k, v⟩ := c
    cases n with
    | nil =>
      have := h k
      simp [Memory.read_cons] at this
    | cons d n =>
      obtain ⟨l, u⟩ := d
      have hm' := List.pairwise_cons.mp hm
      have hn' := List.pairwise_cons.mp hn
      have hk : k = l := by
        rcases Nat.lt_trichotomy k l with hlt | heq | hgt
        · have e := h k
          have hne : l ≠ k := by omega
          rw [Memory.read_cons, if_pos rfl, Memory.read_cons, if_neg hne,
            Memory.read_eq_none_of_not_listed n k
              (fun c hc e => by have := hn'.1 c hc; simp only at this; omega)] at e
          exact absurd e (by simp)
        · exact heq
        · have e := h l
          have hne : k ≠ l := by omega
          rw [Memory.read_cons, if_neg hne, Memory.read_cons, if_pos rfl,
            Memory.read_eq_none_of_not_listed m l
              (fun c hc e => by have := hm'.1 c hc; simp only at this; omega)] at e
          exact absurd e (by simp)
      subst hk
      have hv : v = u := by
        have e := h k
        simpa [Memory.read_cons] using e
      subst hv
      congr 1
      refine ih n hm'.2 hn'.2 fun a => ?_
      by_cases ha : k = a
      · subst ha
        rw [Memory.read_eq_none_of_not_listed m k
            (fun c hc e => by have := hm'.1 c hc; simp only at this; omega),
          Memory.read_eq_none_of_not_listed n k
            (fun c hc e => by have := hn'.1 c hc; simp only at this; omega)]
      · have e := h a
        rwa [Memory.read_cons, if_neg ha, Memory.read_cons, if_neg ha] at e

@[simp] theorem zeroCells_length (w n : Nat) : (zeroCells w n).length = n := by simp [zeroCells]

theorem zeroCells_getElem? (w n i : Nat) (h : i < n) : (zeroCells w n)[i]? = some (some 0) := by
  simp [zeroCells, h]

end Sys2Proof.Machine
end

