-- ==== Sys2Proof/Laws/State.lean ====
section
/-!
SUPPORT. One lemma per field per update of the state, true by `rfl`, so that no proof unfolds a record
update.
-/

namespace Sys2Proof.Machine

variable (s : State)

@[simp] theorem State.respond_params (st : BitVec 4) (d : Word) : (s.respond st d).params = s.params := rfl
@[simp] theorem State.respond_bpp (st : BitVec 4) (d : Word) : (s.respond st d).bpp = s.bpp := rfl
@[simp] theorem State.respond_srcdepth (st : BitVec 4) (d : Word) :
    (s.respond st d).srcdepth = s.srcdepth := rfl
@[simp] theorem State.respond_tilesz (st : BitVec 4) (d : Word) : (s.respond st d).tilesz = s.tilesz := rfl
@[simp] theorem State.respond_width (st : BitVec 4) (d : Word) : (s.respond st d).width = s.width := rfl
@[simp] theorem State.respond_height (st : BitVec 4) (d : Word) : (s.respond st d).height = s.height := rfl
@[simp] theorem State.respond_ncol (st : BitVec 4) (d : Word) : (s.respond st d).ncol = s.ncol := rfl
@[simp] theorem State.respond_padctl (st : BitVec 4) (d : Word) : (s.respond st d).padctl = s.padctl := rfl
@[simp] theorem State.respond_dupctl (st : BitVec 4) (d : Word) : (s.respond st d).dupctl = s.dupctl := rfl
@[simp] theorem State.respond_status (st : BitVec 4) (d : Word) : (s.respond st d).status = s.status := rfl
@[simp] theorem State.respond_errinfo0 (st : BitVec 4) (d : Word) :
    (s.respond st d).errinfo0 = s.errinfo0 := rfl
@[simp] theorem State.respond_errinfo1 (st : BitVec 4) (d : Word) :
    (s.respond st d).errinfo1 = s.errinfo1 := rfl
@[simp] theorem State.respond_addr (st : BitVec 4) (d : Word) : (s.respond st d).addr = s.addr := rfl
@[simp] theorem State.respond_vlen (st : BitVec 4) (d : Word) : (s.respond st d).vlen = s.vlen := rfl
@[simp] theorem State.respond_pallen (st : BitVec 4) (d : Word) : (s.respond st d).pallen = s.pallen := rfl
@[simp] theorem State.respond_dupcnt (st : BitVec 4) (d : Word) : (s.respond st d).dupcnt = s.dupcnt := rfl
@[simp] theorem State.respond_dupidx (st : BitVec 4) (d : Word) : (s.respond st d).dupidx = s.dupidx := rfl
@[simp] theorem State.respond_tile (st : BitVec 4) (d : Word) : (s.respond st d).tile = s.tile := rfl
@[simp] theorem State.respond_etile (st : BitVec 4) (d : Word) : (s.respond st d).etile = s.etile := rfl
@[simp] theorem State.respond_pix (st : BitVec 4) (d : Word) : (s.respond st d).pix = s.pix := rfl
@[simp] theorem State.respond_col (st : BitVec 4) (d : Word) : (s.respond st d).col = s.col := rfl
@[simp] theorem State.respond_pal (st : BitVec 4) (d : Word) : (s.respond st d).pal = s.pal := rfl
@[simp] theorem State.respond_vram (st : BitVec 4) (d : Word) : (s.respond st d).vram = s.vram := rfl
@[simp] theorem State.respond_port (st : BitVec 4) (d : Word) : (s.respond st d).port = s.port := rfl
@[simp] theorem State.respond_response (st : BitVec 4) (d : Word) :
    (s.respond st d).response = some { status := st, data := d } := rfl
@[simp] theorem State.respond_answer (st : BitVec 4) (d : Word) : (s.respond st d).answer = s.answer := rfl
@[simp] theorem State.respond_draws (st : BitVec 4) (d : Word) : (s.respond st d).draws = s.draws + 1 := rfl

@[simp] theorem State.latch_params (e : ErrorKind) (a b : Word) : (s.latch e a b).params = s.params := rfl
@[simp] theorem State.latch_bpp (e : ErrorKind) (a b : Word) : (s.latch e a b).bpp = s.bpp := rfl
@[simp] theorem State.latch_srcdepth (e : ErrorKind) (a b : Word) :
    (s.latch e a b).srcdepth = s.srcdepth := rfl
@[simp] theorem State.latch_tilesz (e : ErrorKind) (a b : Word) : (s.latch e a b).tilesz = s.tilesz := rfl
@[simp] theorem State.latch_width (e : ErrorKind) (a b : Word) : (s.latch e a b).width = s.width := rfl
@[simp] theorem State.latch_height (e : ErrorKind) (a b : Word) : (s.latch e a b).height = s.height := rfl
@[simp] theorem State.latch_ncol (e : ErrorKind) (a b : Word) : (s.latch e a b).ncol = s.ncol := rfl
@[simp] theorem State.latch_padctl (e : ErrorKind) (a b : Word) : (s.latch e a b).padctl = s.padctl := rfl
@[simp] theorem State.latch_dupctl (e : ErrorKind) (a b : Word) : (s.latch e a b).dupctl = s.dupctl := rfl
@[simp] theorem State.latch_status (e : ErrorKind) (a b : Word) :
    (s.latch e a b).status = { s.status with err := e.code } := rfl
@[simp] theorem State.latch_errinfo0 (e : ErrorKind) (a b : Word) : (s.latch e a b).errinfo0 = a := rfl
@[simp] theorem State.latch_errinfo1 (e : ErrorKind) (a b : Word) : (s.latch e a b).errinfo1 = b := rfl
@[simp] theorem State.latch_addr (e : ErrorKind) (a b : Word) : (s.latch e a b).addr = s.addr := rfl
@[simp] theorem State.latch_vlen (e : ErrorKind) (a b : Word) : (s.latch e a b).vlen = s.vlen := rfl
@[simp] theorem State.latch_pallen (e : ErrorKind) (a b : Word) : (s.latch e a b).pallen = s.pallen := rfl
@[simp] theorem State.latch_dupcnt (e : ErrorKind) (a b : Word) : (s.latch e a b).dupcnt = s.dupcnt := rfl
@[simp] theorem State.latch_dupidx (e : ErrorKind) (a b : Word) : (s.latch e a b).dupidx = s.dupidx := rfl
@[simp] theorem State.latch_tile (e : ErrorKind) (a b : Word) : (s.latch e a b).tile = s.tile := rfl
@[simp] theorem State.latch_etile (e : ErrorKind) (a b : Word) : (s.latch e a b).etile = s.etile := rfl
@[simp] theorem State.latch_pix (e : ErrorKind) (a b : Word) : (s.latch e a b).pix = s.pix := rfl
@[simp] theorem State.latch_col (e : ErrorKind) (a b : Word) : (s.latch e a b).col = s.col := rfl
@[simp] theorem State.latch_pal (e : ErrorKind) (a b : Word) : (s.latch e a b).pal = s.pal := rfl
@[simp] theorem State.latch_vram (e : ErrorKind) (a b : Word) : (s.latch e a b).vram = s.vram := rfl
@[simp] theorem State.latch_port (e : ErrorKind) (a b : Word) : (s.latch e a b).port = s.port := rfl
@[simp] theorem State.latch_response (e : ErrorKind) (a b : Word) :
    (s.latch e a b).response = s.response := rfl
@[simp] theorem State.latch_answer (e : ErrorKind) (a b : Word) : (s.latch e a b).answer = s.answer := rfl
@[simp] theorem State.latch_draws (e : ErrorKind) (a b : Word) : (s.latch e a b).draws = s.draws := rfl

@[simp] theorem State.raised_params (e : ErrorKind) (a b : Word) : (s.raised e a b).params = s.params := rfl
@[simp] theorem State.raised_bpp (e : ErrorKind) (a b : Word) : (s.raised e a b).bpp = s.bpp := rfl
@[simp] theorem State.raised_srcdepth (e : ErrorKind) (a b : Word) :
    (s.raised e a b).srcdepth = s.srcdepth := rfl
@[simp] theorem State.raised_tilesz (e : ErrorKind) (a b : Word) : (s.raised e a b).tilesz = s.tilesz := rfl
@[simp] theorem State.raised_width (e : ErrorKind) (a b : Word) : (s.raised e a b).width = s.width := rfl
@[simp] theorem State.raised_height (e : ErrorKind) (a b : Word) : (s.raised e a b).height = s.height := rfl
@[simp] theorem State.raised_ncol (e : ErrorKind) (a b : Word) : (s.raised e a b).ncol = s.ncol := rfl
@[simp] theorem State.raised_padctl (e : ErrorKind) (a b : Word) : (s.raised e a b).padctl = s.padctl := rfl
@[simp] theorem State.raised_dupctl (e : ErrorKind) (a b : Word) : (s.raised e a b).dupctl = s.dupctl := rfl
@[simp] theorem State.raised_status (e : ErrorKind) (a b : Word) :
    (s.raised e a b).status = { s.status with err := e.code } := rfl
@[simp] theorem State.raised_errinfo0 (e : ErrorKind) (a b : Word) : (s.raised e a b).errinfo0 = a := rfl
@[simp] theorem State.raised_errinfo1 (e : ErrorKind) (a b : Word) : (s.raised e a b).errinfo1 = b := rfl
@[simp] theorem State.raised_addr (e : ErrorKind) (a b : Word) : (s.raised e a b).addr = s.addr := rfl
@[simp] theorem State.raised_vlen (e : ErrorKind) (a b : Word) : (s.raised e a b).vlen = s.vlen := rfl
@[simp] theorem State.raised_pallen (e : ErrorKind) (a b : Word) : (s.raised e a b).pallen = s.pallen := rfl
@[simp] theorem State.raised_dupcnt (e : ErrorKind) (a b : Word) : (s.raised e a b).dupcnt = s.dupcnt := rfl
@[simp] theorem State.raised_dupidx (e : ErrorKind) (a b : Word) : (s.raised e a b).dupidx = s.dupidx := rfl
@[simp] theorem State.raised_tile (e : ErrorKind) (a b : Word) : (s.raised e a b).tile = s.tile := rfl
@[simp] theorem State.raised_etile (e : ErrorKind) (a b : Word) : (s.raised e a b).etile = s.etile := rfl
@[simp] theorem State.raised_pix (e : ErrorKind) (a b : Word) : (s.raised e a b).pix = s.pix := rfl
@[simp] theorem State.raised_col (e : ErrorKind) (a b : Word) : (s.raised e a b).col = s.col := rfl
@[simp] theorem State.raised_pal (e : ErrorKind) (a b : Word) : (s.raised e a b).pal = s.pal := rfl
@[simp] theorem State.raised_vram (e : ErrorKind) (a b : Word) : (s.raised e a b).vram = s.vram := rfl
@[simp] theorem State.raised_port (e : ErrorKind) (a b : Word) : (s.raised e a b).port = s.port := rfl
@[simp] theorem State.raised_response (e : ErrorKind) (a b : Word) :
    (s.raised e a b).response = some { status := e.code, data := a } := rfl
@[simp] theorem State.raised_answer (e : ErrorKind) (a b : Word) : (s.raised e a b).answer = s.answer := rfl
@[simp] theorem State.raised_draws (e : ErrorKind) (a b : Word) : (s.raised e a b).draws = s.draws + 1 := rfl

@[simp] theorem State.clearError_params : (s.clearError).params = s.params := rfl
@[simp] theorem State.clearError_bpp : (s.clearError).bpp = s.bpp := rfl
@[simp] theorem State.clearError_srcdepth : (s.clearError).srcdepth = s.srcdepth := rfl
@[simp] theorem State.clearError_tilesz : (s.clearError).tilesz = s.tilesz := rfl
@[simp] theorem State.clearError_width : (s.clearError).width = s.width := rfl
@[simp] theorem State.clearError_height : (s.clearError).height = s.height := rfl
@[simp] theorem State.clearError_ncol : (s.clearError).ncol = s.ncol := rfl
@[simp] theorem State.clearError_padctl : (s.clearError).padctl = s.padctl := rfl
@[simp] theorem State.clearError_dupctl : (s.clearError).dupctl = s.dupctl := rfl
@[simp] theorem State.clearError_status : (s.clearError).status = { s.status with err := 0#4 } := rfl
@[simp] theorem State.clearError_errinfo0 : (s.clearError).errinfo0 = s.errinfo0 := rfl
@[simp] theorem State.clearError_errinfo1 : (s.clearError).errinfo1 = s.errinfo1 := rfl
@[simp] theorem State.clearError_addr : (s.clearError).addr = s.addr := rfl
@[simp] theorem State.clearError_vlen : (s.clearError).vlen = s.vlen := rfl
@[simp] theorem State.clearError_pallen : (s.clearError).pallen = s.pallen := rfl
@[simp] theorem State.clearError_dupcnt : (s.clearError).dupcnt = s.dupcnt := rfl
@[simp] theorem State.clearError_dupidx : (s.clearError).dupidx = s.dupidx := rfl
@[simp] theorem State.clearError_tile : (s.clearError).tile = s.tile := rfl
@[simp] theorem State.clearError_etile : (s.clearError).etile = s.etile := rfl
@[simp] theorem State.clearError_pix : (s.clearError).pix = s.pix := rfl
@[simp] theorem State.clearError_col : (s.clearError).col = s.col := rfl
@[simp] theorem State.clearError_pal : (s.clearError).pal = s.pal := rfl
@[simp] theorem State.clearError_vram : (s.clearError).vram = s.vram := rfl
@[simp] theorem State.clearError_port : (s.clearError).port = s.port := rfl
@[simp] theorem State.clearError_response : (s.clearError).response = s.response := rfl
@[simp] theorem State.clearError_answer : (s.clearError).answer = s.answer := rfl
@[simp] theorem State.clearError_draws : (s.clearError).draws = s.draws := rfl

@[simp] theorem State.invalidateGeometry_params : (s.invalidateGeometry).params = s.params := rfl
@[simp] theorem State.invalidateGeometry_bpp : (s.invalidateGeometry).bpp = s.bpp := rfl
@[simp] theorem State.invalidateGeometry_srcdepth : (s.invalidateGeometry).srcdepth = s.srcdepth := rfl
@[simp] theorem State.invalidateGeometry_tilesz : (s.invalidateGeometry).tilesz = s.tilesz := rfl
@[simp] theorem State.invalidateGeometry_width : (s.invalidateGeometry).width = s.width := rfl
@[simp] theorem State.invalidateGeometry_height : (s.invalidateGeometry).height = s.height := rfl
@[simp] theorem State.invalidateGeometry_ncol : (s.invalidateGeometry).ncol = s.ncol := rfl
@[simp] theorem State.invalidateGeometry_padctl : (s.invalidateGeometry).padctl = s.padctl := rfl
@[simp] theorem State.invalidateGeometry_dupctl : (s.invalidateGeometry).dupctl = s.dupctl := rfl
@[simp] theorem State.invalidateGeometry_status :
    (s.invalidateGeometry).status = { s.status with tv := false, ev := false, av := false, lv := false } := rfl
@[simp] theorem State.invalidateGeometry_errinfo0 : (s.invalidateGeometry).errinfo0 = s.errinfo0 := rfl
@[simp] theorem State.invalidateGeometry_errinfo1 : (s.invalidateGeometry).errinfo1 = s.errinfo1 := rfl
@[simp] theorem State.invalidateGeometry_addr : (s.invalidateGeometry).addr = none := rfl
@[simp] theorem State.invalidateGeometry_vlen : (s.invalidateGeometry).vlen = none := rfl
@[simp] theorem State.invalidateGeometry_pallen : (s.invalidateGeometry).pallen = s.pallen := rfl
@[simp] theorem State.invalidateGeometry_dupcnt : (s.invalidateGeometry).dupcnt = s.dupcnt := rfl
@[simp] theorem State.invalidateGeometry_dupidx : (s.invalidateGeometry).dupidx = s.dupidx := rfl
@[simp] theorem State.invalidateGeometry_tile : (s.invalidateGeometry).tile = [] := rfl
@[simp] theorem State.invalidateGeometry_etile : (s.invalidateGeometry).etile = [] := rfl
@[simp] theorem State.invalidateGeometry_pix : (s.invalidateGeometry).pix = s.pix := rfl
@[simp] theorem State.invalidateGeometry_col : (s.invalidateGeometry).col = s.col := rfl
@[simp] theorem State.invalidateGeometry_pal : (s.invalidateGeometry).pal = s.pal := rfl
@[simp] theorem State.invalidateGeometry_vram : (s.invalidateGeometry).vram = s.vram := rfl
@[simp] theorem State.invalidateGeometry_port : (s.invalidateGeometry).port = s.port := rfl
@[simp] theorem State.invalidateGeometry_response : (s.invalidateGeometry).response = s.response := rfl
@[simp] theorem State.invalidateGeometry_answer : (s.invalidateGeometry).answer = s.answer := rfl
@[simp] theorem State.invalidateGeometry_draws : (s.invalidateGeometry).draws = s.draws := rfl

@[simp] theorem State.invalidateTiles_params : (s.invalidateTiles).params = s.params := rfl
@[simp] theorem State.invalidateTiles_bpp : (s.invalidateTiles).bpp = s.bpp := rfl
@[simp] theorem State.invalidateTiles_srcdepth : (s.invalidateTiles).srcdepth = s.srcdepth := rfl
@[simp] theorem State.invalidateTiles_tilesz : (s.invalidateTiles).tilesz = s.tilesz := rfl
@[simp] theorem State.invalidateTiles_width : (s.invalidateTiles).width = s.width := rfl
@[simp] theorem State.invalidateTiles_height : (s.invalidateTiles).height = s.height := rfl
@[simp] theorem State.invalidateTiles_ncol : (s.invalidateTiles).ncol = s.ncol := rfl
@[simp] theorem State.invalidateTiles_padctl : (s.invalidateTiles).padctl = s.padctl := rfl
@[simp] theorem State.invalidateTiles_dupctl : (s.invalidateTiles).dupctl = s.dupctl := rfl
@[simp] theorem State.invalidateTiles_status :
    (s.invalidateTiles).status = { s.status with tv := false, ev := false, av := false } := rfl
@[simp] theorem State.invalidateTiles_errinfo0 : (s.invalidateTiles).errinfo0 = s.errinfo0 := rfl
@[simp] theorem State.invalidateTiles_errinfo1 : (s.invalidateTiles).errinfo1 = s.errinfo1 := rfl
@[simp] theorem State.invalidateTiles_addr : (s.invalidateTiles).addr = none := rfl
@[simp] theorem State.invalidateTiles_vlen : (s.invalidateTiles).vlen = s.vlen := rfl
@[simp] theorem State.invalidateTiles_pallen : (s.invalidateTiles).pallen = s.pallen := rfl
@[simp] theorem State.invalidateTiles_dupcnt : (s.invalidateTiles).dupcnt = s.dupcnt := rfl
@[simp] theorem State.invalidateTiles_dupidx : (s.invalidateTiles).dupidx = s.dupidx := rfl
@[simp] theorem State.invalidateTiles_tile : (s.invalidateTiles).tile = [] := rfl
@[simp] theorem State.invalidateTiles_etile : (s.invalidateTiles).etile = [] := rfl
@[simp] theorem State.invalidateTiles_pix : (s.invalidateTiles).pix = s.pix := rfl
@[simp] theorem State.invalidateTiles_col : (s.invalidateTiles).col = s.col := rfl
@[simp] theorem State.invalidateTiles_pal : (s.invalidateTiles).pal = s.pal := rfl
@[simp] theorem State.invalidateTiles_vram : (s.invalidateTiles).vram = s.vram := rfl
@[simp] theorem State.invalidateTiles_port : (s.invalidateTiles).port = s.port := rfl
@[simp] theorem State.invalidateTiles_response : (s.invalidateTiles).response = s.response := rfl
@[simp] theorem State.invalidateTiles_answer : (s.invalidateTiles).answer = s.answer := rfl
@[simp] theorem State.invalidateTiles_draws : (s.invalidateTiles).draws = s.draws := rfl

@[simp] theorem State.setTile_params (m : Memory 8) : (s.setTile m).params = s.params := rfl
@[simp] theorem State.setTile_bpp (m : Memory 8) : (s.setTile m).bpp = s.bpp := rfl
@[simp] theorem State.setTile_srcdepth (m : Memory 8) : (s.setTile m).srcdepth = s.srcdepth := rfl
@[simp] theorem State.setTile_tilesz (m : Memory 8) : (s.setTile m).tilesz = s.tilesz := rfl
@[simp] theorem State.setTile_width (m : Memory 8) : (s.setTile m).width = s.width := rfl
@[simp] theorem State.setTile_height (m : Memory 8) : (s.setTile m).height = s.height := rfl
@[simp] theorem State.setTile_ncol (m : Memory 8) : (s.setTile m).ncol = s.ncol := rfl
@[simp] theorem State.setTile_padctl (m : Memory 8) : (s.setTile m).padctl = s.padctl := rfl
@[simp] theorem State.setTile_dupctl (m : Memory 8) : (s.setTile m).dupctl = s.dupctl := rfl
@[simp] theorem State.setTile_status (m : Memory 8) :
    (s.setTile m).status = { s.status with tv := true, ev := false } := rfl
@[simp] theorem State.setTile_errinfo0 (m : Memory 8) : (s.setTile m).errinfo0 = s.errinfo0 := rfl
@[simp] theorem State.setTile_errinfo1 (m : Memory 8) : (s.setTile m).errinfo1 = s.errinfo1 := rfl
@[simp] theorem State.setTile_addr (m : Memory 8) : (s.setTile m).addr = s.addr := rfl
@[simp] theorem State.setTile_vlen (m : Memory 8) : (s.setTile m).vlen = s.vlen := rfl
@[simp] theorem State.setTile_pallen (m : Memory 8) : (s.setTile m).pallen = s.pallen := rfl
@[simp] theorem State.setTile_dupcnt (m : Memory 8) : (s.setTile m).dupcnt = s.dupcnt := rfl
@[simp] theorem State.setTile_dupidx (m : Memory 8) : (s.setTile m).dupidx = s.dupidx := rfl
@[simp] theorem State.setTile_tile (m : Memory 8) : (s.setTile m).tile = m := rfl
@[simp] theorem State.setTile_etile (m : Memory 8) : (s.setTile m).etile = [] := rfl
@[simp] theorem State.setTile_pix (m : Memory 8) : (s.setTile m).pix = s.pix := rfl
@[simp] theorem State.setTile_col (m : Memory 8) : (s.setTile m).col = s.col := rfl
@[simp] theorem State.setTile_pal (m : Memory 8) : (s.setTile m).pal = s.pal := rfl
@[simp] theorem State.setTile_vram (m : Memory 8) : (s.setTile m).vram = s.vram := rfl
@[simp] theorem State.setTile_port (m : Memory 8) : (s.setTile m).port = s.port := rfl
@[simp] theorem State.setTile_response (m : Memory 8) : (s.setTile m).response = s.response := rfl
@[simp] theorem State.setTile_answer (m : Memory 8) : (s.setTile m).answer = s.answer := rfl
@[simp] theorem State.setTile_draws (m : Memory 8) : (s.setTile m).draws = s.draws := rfl

@[simp] theorem State.setEtile_params (m : Memory 8) : (s.setEtile m).params = s.params := rfl
@[simp] theorem State.setEtile_bpp (m : Memory 8) : (s.setEtile m).bpp = s.bpp := rfl
@[simp] theorem State.setEtile_srcdepth (m : Memory 8) : (s.setEtile m).srcdepth = s.srcdepth := rfl
@[simp] theorem State.setEtile_tilesz (m : Memory 8) : (s.setEtile m).tilesz = s.tilesz := rfl
@[simp] theorem State.setEtile_width (m : Memory 8) : (s.setEtile m).width = s.width := rfl
@[simp] theorem State.setEtile_height (m : Memory 8) : (s.setEtile m).height = s.height := rfl
@[simp] theorem State.setEtile_ncol (m : Memory 8) : (s.setEtile m).ncol = s.ncol := rfl
@[simp] theorem State.setEtile_padctl (m : Memory 8) : (s.setEtile m).padctl = s.padctl := rfl
@[simp] theorem State.setEtile_dupctl (m : Memory 8) : (s.setEtile m).dupctl = s.dupctl := rfl
@[simp] theorem State.setEtile_status (m : Memory 8) :
    (s.setEtile m).status = { s.status with ev := true } := rfl
@[simp] theorem State.setEtile_errinfo0 (m : Memory 8) : (s.setEtile m).errinfo0 = s.errinfo0 := rfl
@[simp] theorem State.setEtile_errinfo1 (m : Memory 8) : (s.setEtile m).errinfo1 = s.errinfo1 := rfl
@[simp] theorem State.setEtile_addr (m : Memory 8) : (s.setEtile m).addr = s.addr := rfl
@[simp] theorem State.setEtile_vlen (m : Memory 8) : (s.setEtile m).vlen = s.vlen := rfl
@[simp] theorem State.setEtile_pallen (m : Memory 8) : (s.setEtile m).pallen = s.pallen := rfl
@[simp] theorem State.setEtile_dupcnt (m : Memory 8) : (s.setEtile m).dupcnt = s.dupcnt := rfl
@[simp] theorem State.setEtile_dupidx (m : Memory 8) : (s.setEtile m).dupidx = s.dupidx := rfl
@[simp] theorem State.setEtile_tile (m : Memory 8) : (s.setEtile m).tile = s.tile := rfl
@[simp] theorem State.setEtile_etile (m : Memory 8) : (s.setEtile m).etile = m := rfl
@[simp] theorem State.setEtile_pix (m : Memory 8) : (s.setEtile m).pix = s.pix := rfl
@[simp] theorem State.setEtile_col (m : Memory 8) : (s.setEtile m).col = s.col := rfl
@[simp] theorem State.setEtile_pal (m : Memory 8) : (s.setEtile m).pal = s.pal := rfl
@[simp] theorem State.setEtile_vram (m : Memory 8) : (s.setEtile m).vram = s.vram := rfl
@[simp] theorem State.setEtile_port (m : Memory 8) : (s.setEtile m).port = s.port := rfl
@[simp] theorem State.setEtile_response (m : Memory 8) : (s.setEtile m).response = s.response := rfl
@[simp] theorem State.setEtile_answer (m : Memory 8) : (s.setEtile m).answer = s.answer := rfl
@[simp] theorem State.setEtile_draws (m : Memory 8) : (s.setEtile m).draws = s.draws := rfl

@[simp] theorem State.setAddr_params (a : Word) : (s.setAddr a).params = s.params := rfl
@[simp] theorem State.setAddr_bpp (a : Word) : (s.setAddr a).bpp = s.bpp := rfl
@[simp] theorem State.setAddr_srcdepth (a : Word) : (s.setAddr a).srcdepth = s.srcdepth := rfl
@[simp] theorem State.setAddr_tilesz (a : Word) : (s.setAddr a).tilesz = s.tilesz := rfl
@[simp] theorem State.setAddr_width (a : Word) : (s.setAddr a).width = s.width := rfl
@[simp] theorem State.setAddr_height (a : Word) : (s.setAddr a).height = s.height := rfl
@[simp] theorem State.setAddr_ncol (a : Word) : (s.setAddr a).ncol = s.ncol := rfl
@[simp] theorem State.setAddr_padctl (a : Word) : (s.setAddr a).padctl = s.padctl := rfl
@[simp] theorem State.setAddr_dupctl (a : Word) : (s.setAddr a).dupctl = s.dupctl := rfl
@[simp] theorem State.setAddr_status (a : Word) : (s.setAddr a).status = { s.status with av := true } := rfl
@[simp] theorem State.setAddr_errinfo0 (a : Word) : (s.setAddr a).errinfo0 = s.errinfo0 := rfl
@[simp] theorem State.setAddr_errinfo1 (a : Word) : (s.setAddr a).errinfo1 = s.errinfo1 := rfl
@[simp] theorem State.setAddr_addr (a : Word) : (s.setAddr a).addr = some a := rfl
@[simp] theorem State.setAddr_vlen (a : Word) : (s.setAddr a).vlen = s.vlen := rfl
@[simp] theorem State.setAddr_pallen (a : Word) : (s.setAddr a).pallen = s.pallen := rfl
@[simp] theorem State.setAddr_dupcnt (a : Word) : (s.setAddr a).dupcnt = s.dupcnt := rfl
@[simp] theorem State.setAddr_dupidx (a : Word) : (s.setAddr a).dupidx = s.dupidx := rfl
@[simp] theorem State.setAddr_tile (a : Word) : (s.setAddr a).tile = s.tile := rfl
@[simp] theorem State.setAddr_etile (a : Word) : (s.setAddr a).etile = s.etile := rfl
@[simp] theorem State.setAddr_pix (a : Word) : (s.setAddr a).pix = s.pix := rfl
@[simp] theorem State.setAddr_col (a : Word) : (s.setAddr a).col = s.col := rfl
@[simp] theorem State.setAddr_pal (a : Word) : (s.setAddr a).pal = s.pal := rfl
@[simp] theorem State.setAddr_vram (a : Word) : (s.setAddr a).vram = s.vram := rfl
@[simp] theorem State.setAddr_port (a : Word) : (s.setAddr a).port = s.port := rfl
@[simp] theorem State.setAddr_response (a : Word) : (s.setAddr a).response = s.response := rfl
@[simp] theorem State.setAddr_answer (a : Word) : (s.setAddr a).answer = s.answer := rfl
@[simp] theorem State.setAddr_draws (a : Word) : (s.setAddr a).draws = s.draws := rfl

@[simp] theorem State.setVlen_params (l : Word) : (s.setVlen l).params = s.params := rfl
@[simp] theorem State.setVlen_bpp (l : Word) : (s.setVlen l).bpp = s.bpp := rfl
@[simp] theorem State.setVlen_srcdepth (l : Word) : (s.setVlen l).srcdepth = s.srcdepth := rfl
@[simp] theorem State.setVlen_tilesz (l : Word) : (s.setVlen l).tilesz = s.tilesz := rfl
@[simp] theorem State.setVlen_width (l : Word) : (s.setVlen l).width = s.width := rfl
@[simp] theorem State.setVlen_height (l : Word) : (s.setVlen l).height = s.height := rfl
@[simp] theorem State.setVlen_ncol (l : Word) : (s.setVlen l).ncol = s.ncol := rfl
@[simp] theorem State.setVlen_padctl (l : Word) : (s.setVlen l).padctl = s.padctl := rfl
@[simp] theorem State.setVlen_dupctl (l : Word) : (s.setVlen l).dupctl = s.dupctl := rfl
@[simp] theorem State.setVlen_status (l : Word) : (s.setVlen l).status = { s.status with lv := true } := rfl
@[simp] theorem State.setVlen_errinfo0 (l : Word) : (s.setVlen l).errinfo0 = s.errinfo0 := rfl
@[simp] theorem State.setVlen_errinfo1 (l : Word) : (s.setVlen l).errinfo1 = s.errinfo1 := rfl
@[simp] theorem State.setVlen_addr (l : Word) : (s.setVlen l).addr = s.addr := rfl
@[simp] theorem State.setVlen_vlen (l : Word) : (s.setVlen l).vlen = some l := rfl
@[simp] theorem State.setVlen_pallen (l : Word) : (s.setVlen l).pallen = s.pallen := rfl
@[simp] theorem State.setVlen_dupcnt (l : Word) : (s.setVlen l).dupcnt = s.dupcnt := rfl
@[simp] theorem State.setVlen_dupidx (l : Word) : (s.setVlen l).dupidx = s.dupidx := rfl
@[simp] theorem State.setVlen_tile (l : Word) : (s.setVlen l).tile = s.tile := rfl
@[simp] theorem State.setVlen_etile (l : Word) : (s.setVlen l).etile = s.etile := rfl
@[simp] theorem State.setVlen_pix (l : Word) : (s.setVlen l).pix = s.pix := rfl
@[simp] theorem State.setVlen_col (l : Word) : (s.setVlen l).col = s.col := rfl
@[simp] theorem State.setVlen_pal (l : Word) : (s.setVlen l).pal = s.pal := rfl
@[simp] theorem State.setVlen_vram (l : Word) : (s.setVlen l).vram = s.vram := rfl
@[simp] theorem State.setVlen_port (l : Word) : (s.setVlen l).port = s.port := rfl
@[simp] theorem State.setVlen_response (l : Word) : (s.setVlen l).response = s.response := rfl
@[simp] theorem State.setVlen_answer (l : Word) : (s.setVlen l).answer = s.answer := rfl
@[simp] theorem State.setVlen_draws (l : Word) : (s.setVlen l).draws = s.draws := rfl

@[simp] theorem State.setPalette_params (l : BitVec 16) (c : Option (BitVec 16 × BitVec 16)) :
    (s.setPalette l c).params = s.params := rfl
@[simp] theorem State.setPalette_bpp (l : BitVec 16) (c : Option (BitVec 16 × BitVec 16)) :
    (s.setPalette l c).bpp = s.bpp := rfl
@[simp] theorem State.setPalette_srcdepth (l : BitVec 16) (c : Option (BitVec 16 × BitVec 16)) :
    (s.setPalette l c).srcdepth = s.srcdepth := rfl
@[simp] theorem State.setPalette_tilesz (l : BitVec 16) (c : Option (BitVec 16 × BitVec 16)) :
    (s.setPalette l c).tilesz = s.tilesz := rfl
@[simp] theorem State.setPalette_width (l : BitVec 16) (c : Option (BitVec 16 × BitVec 16)) :
    (s.setPalette l c).width = s.width := rfl
@[simp] theorem State.setPalette_height (l : BitVec 16) (c : Option (BitVec 16 × BitVec 16)) :
    (s.setPalette l c).height = s.height := rfl
@[simp] theorem State.setPalette_ncol (l : BitVec 16) (c : Option (BitVec 16 × BitVec 16)) :
    (s.setPalette l c).ncol = s.ncol := rfl
@[simp] theorem State.setPalette_padctl (l : BitVec 16) (c : Option (BitVec 16 × BitVec 16)) :
    (s.setPalette l c).padctl = s.padctl := rfl
@[simp] theorem State.setPalette_dupctl (l : BitVec 16) (c : Option (BitVec 16 × BitVec 16)) :
    (s.setPalette l c).dupctl = s.dupctl := rfl
@[simp] theorem State.setPalette_status (l : BitVec 16) (c : Option (BitVec 16 × BitVec 16)) :
    (s.setPalette l c).status = { s.status with pv := true, dup := c.map fun p => decide (p.1 ≠ 0#16) } := rfl
@[simp] theorem State.setPalette_errinfo0 (l : BitVec 16) (c : Option (BitVec 16 × BitVec 16)) :
    (s.setPalette l c).errinfo0 = s.errinfo0 := rfl
@[simp] theorem State.setPalette_errinfo1 (l : BitVec 16) (c : Option (BitVec 16 × BitVec 16)) :
    (s.setPalette l c).errinfo1 = s.errinfo1 := rfl
@[simp] theorem State.setPalette_addr (l : BitVec 16) (c : Option (BitVec 16 × BitVec 16)) :
    (s.setPalette l c).addr = s.addr := rfl
@[simp] theorem State.setPalette_vlen (l : BitVec 16) (c : Option (BitVec 16 × BitVec 16)) :
    (s.setPalette l c).vlen = s.vlen := rfl
@[simp] theorem State.setPalette_pallen (l : BitVec 16) (c : Option (BitVec 16 × BitVec 16)) :
    (s.setPalette l c).pallen = some l := rfl
@[simp] theorem State.setPalette_dupcnt (l : BitVec 16) (c : Option (BitVec 16 × BitVec 16)) :
    (s.setPalette l c).dupcnt = c.map Prod.fst := rfl
@[simp] theorem State.setPalette_dupidx (l : BitVec 16) (c : Option (BitVec 16 × BitVec 16)) :
    (s.setPalette l c).dupidx = c.map Prod.snd := rfl
@[simp] theorem State.setPalette_tile (l : BitVec 16) (c : Option (BitVec 16 × BitVec 16)) :
    (s.setPalette l c).tile = s.tile := rfl
@[simp] theorem State.setPalette_etile (l : BitVec 16) (c : Option (BitVec 16 × BitVec 16)) :
    (s.setPalette l c).etile = s.etile := rfl
@[simp] theorem State.setPalette_pix (l : BitVec 16) (c : Option (BitVec 16 × BitVec 16)) :
    (s.setPalette l c).pix = s.pix := rfl
@[simp] theorem State.setPalette_col (l : BitVec 16) (c : Option (BitVec 16 × BitVec 16)) :
    (s.setPalette l c).col = s.col := rfl
@[simp] theorem State.setPalette_pal (l : BitVec 16) (c : Option (BitVec 16 × BitVec 16)) :
    (s.setPalette l c).pal = s.pal := rfl
@[simp] theorem State.setPalette_vram (l : BitVec 16) (c : Option (BitVec 16 × BitVec 16)) :
    (s.setPalette l c).vram = s.vram := rfl
@[simp] theorem State.setPalette_port (l : BitVec 16) (c : Option (BitVec 16 × BitVec 16)) :
    (s.setPalette l c).port = s.port := rfl
@[simp] theorem State.setPalette_response (l : BitVec 16) (c : Option (BitVec 16 × BitVec 16)) :
    (s.setPalette l c).response = s.response := rfl
@[simp] theorem State.setPalette_answer (l : BitVec 16) (c : Option (BitVec 16 × BitVec 16)) :
    (s.setPalette l c).answer = s.answer := rfl
@[simp] theorem State.setPalette_draws (l : BitVec 16) (c : Option (BitVec 16 × BitVec 16)) :
    (s.setPalette l c).draws = s.draws := rfl

@[simp] theorem State.reply_params (a : HostAnswer) : (s.reply a).params = s.params := rfl
@[simp] theorem State.reply_bpp (a : HostAnswer) : (s.reply a).bpp = s.bpp := rfl
@[simp] theorem State.reply_srcdepth (a : HostAnswer) : (s.reply a).srcdepth = s.srcdepth := rfl
@[simp] theorem State.reply_tilesz (a : HostAnswer) : (s.reply a).tilesz = s.tilesz := rfl
@[simp] theorem State.reply_width (a : HostAnswer) : (s.reply a).width = s.width := rfl
@[simp] theorem State.reply_height (a : HostAnswer) : (s.reply a).height = s.height := rfl
@[simp] theorem State.reply_ncol (a : HostAnswer) : (s.reply a).ncol = s.ncol := rfl
@[simp] theorem State.reply_padctl (a : HostAnswer) : (s.reply a).padctl = s.padctl := rfl
@[simp] theorem State.reply_dupctl (a : HostAnswer) : (s.reply a).dupctl = s.dupctl := rfl
@[simp] theorem State.reply_status (a : HostAnswer) : (s.reply a).status = s.status := rfl
@[simp] theorem State.reply_errinfo0 (a : HostAnswer) : (s.reply a).errinfo0 = s.errinfo0 := rfl
@[simp] theorem State.reply_errinfo1 (a : HostAnswer) : (s.reply a).errinfo1 = s.errinfo1 := rfl
@[simp] theorem State.reply_addr (a : HostAnswer) : (s.reply a).addr = s.addr := rfl
@[simp] theorem State.reply_vlen (a : HostAnswer) : (s.reply a).vlen = s.vlen := rfl
@[simp] theorem State.reply_pallen (a : HostAnswer) : (s.reply a).pallen = s.pallen := rfl
@[simp] theorem State.reply_dupcnt (a : HostAnswer) : (s.reply a).dupcnt = s.dupcnt := rfl
@[simp] theorem State.reply_dupidx (a : HostAnswer) : (s.reply a).dupidx = s.dupidx := rfl
@[simp] theorem State.reply_tile (a : HostAnswer) : (s.reply a).tile = s.tile := rfl
@[simp] theorem State.reply_etile (a : HostAnswer) : (s.reply a).etile = s.etile := rfl
@[simp] theorem State.reply_pix (a : HostAnswer) : (s.reply a).pix = s.pix := rfl
@[simp] theorem State.reply_col (a : HostAnswer) : (s.reply a).col = s.col := rfl
@[simp] theorem State.reply_pal (a : HostAnswer) : (s.reply a).pal = s.pal := rfl
@[simp] theorem State.reply_vram (a : HostAnswer) : (s.reply a).vram = s.vram := rfl
@[simp] theorem State.reply_port (a : HostAnswer) : (s.reply a).port = s.port := rfl
@[simp] theorem State.reply_response (a : HostAnswer) : (s.reply a).response = s.response := rfl
@[simp] theorem State.reply_answer (a : HostAnswer) : (s.reply a).answer = some a := rfl
@[simp] theorem State.reply_draws (a : HostAnswer) : (s.reply a).draws = s.draws + 1 := rfl

@[simp] theorem State.softReset_params : (s.softReset).params = s.params := rfl
@[simp] theorem State.softReset_bpp : (s.softReset).bpp = 0#4 := rfl
@[simp] theorem State.softReset_srcdepth : (s.softReset).srcdepth = 0#4 := rfl
@[simp] theorem State.softReset_tilesz : (s.softReset).tilesz = 8#5 := rfl
@[simp] theorem State.softReset_width : (s.softReset).width = 0#15 := rfl
@[simp] theorem State.softReset_height : (s.softReset).height = 0#15 := rfl
@[simp] theorem State.softReset_ncol : (s.softReset).ncol = 0#9 := rfl
@[simp] theorem State.softReset_padctl : (s.softReset).padctl = 0#17 := rfl
@[simp] theorem State.softReset_dupctl : (s.softReset).dupctl = 0#1 := rfl
@[simp] theorem State.softReset_status : (s.softReset).status = Status.reset := rfl
@[simp] theorem State.softReset_errinfo0 : (s.softReset).errinfo0 = 0#32 := rfl
@[simp] theorem State.softReset_errinfo1 : (s.softReset).errinfo1 = 0#32 := rfl
@[simp] theorem State.softReset_addr : (s.softReset).addr = none := rfl
@[simp] theorem State.softReset_vlen : (s.softReset).vlen = none := rfl
@[simp] theorem State.softReset_pallen : (s.softReset).pallen = none := rfl
@[simp] theorem State.softReset_dupcnt : (s.softReset).dupcnt = none := rfl
@[simp] theorem State.softReset_dupidx : (s.softReset).dupidx = none := rfl
@[simp] theorem State.softReset_tile : (s.softReset).tile = [] := rfl
@[simp] theorem State.softReset_etile : (s.softReset).etile = [] := rfl
@[simp] theorem State.softReset_pix : (s.softReset).pix = s.pix := rfl
@[simp] theorem State.softReset_col : (s.softReset).col = s.col := rfl
@[simp] theorem State.softReset_pal : (s.softReset).pal = s.pal := rfl
@[simp] theorem State.softReset_vram : (s.softReset).vram = s.vram := rfl
@[simp] theorem State.softReset_port : (s.softReset).port = s.port := rfl
@[simp] theorem State.softReset_response : (s.softReset).response = s.response := rfl
@[simp] theorem State.softReset_answer : (s.softReset).answer = s.answer := rfl
@[simp] theorem State.softReset_draws : (s.softReset).draws = s.draws := rfl

@[simp] theorem State.powerOnReset_params : (s.powerOnReset).params = s.params := rfl
@[simp] theorem State.powerOnReset_bpp : (s.powerOnReset).bpp = 0#4 := rfl
@[simp] theorem State.powerOnReset_srcdepth : (s.powerOnReset).srcdepth = 0#4 := rfl
@[simp] theorem State.powerOnReset_tilesz : (s.powerOnReset).tilesz = 8#5 := rfl
@[simp] theorem State.powerOnReset_width : (s.powerOnReset).width = 0#15 := rfl
@[simp] theorem State.powerOnReset_height : (s.powerOnReset).height = 0#15 := rfl
@[simp] theorem State.powerOnReset_ncol : (s.powerOnReset).ncol = 0#9 := rfl
@[simp] theorem State.powerOnReset_padctl : (s.powerOnReset).padctl = 0#17 := rfl
@[simp] theorem State.powerOnReset_dupctl : (s.powerOnReset).dupctl = 0#1 := rfl
@[simp] theorem State.powerOnReset_status : (s.powerOnReset).status = Status.reset := rfl
@[simp] theorem State.powerOnReset_errinfo0 : (s.powerOnReset).errinfo0 = 0#32 := rfl
@[simp] theorem State.powerOnReset_errinfo1 : (s.powerOnReset).errinfo1 = 0#32 := rfl
@[simp] theorem State.powerOnReset_addr : (s.powerOnReset).addr = none := rfl
@[simp] theorem State.powerOnReset_vlen : (s.powerOnReset).vlen = none := rfl
@[simp] theorem State.powerOnReset_pallen : (s.powerOnReset).pallen = none := rfl
@[simp] theorem State.powerOnReset_dupcnt : (s.powerOnReset).dupcnt = none := rfl
@[simp] theorem State.powerOnReset_dupidx : (s.powerOnReset).dupidx = none := rfl
@[simp] theorem State.powerOnReset_tile : (s.powerOnReset).tile = [] := rfl
@[simp] theorem State.powerOnReset_etile : (s.powerOnReset).etile = [] := rfl
@[simp] theorem State.powerOnReset_pix : (s.powerOnReset).pix = [] := rfl
@[simp] theorem State.powerOnReset_col : (s.powerOnReset).col = [] := rfl
@[simp] theorem State.powerOnReset_pal : (s.powerOnReset).pal = [] := rfl
@[simp] theorem State.powerOnReset_vram : (s.powerOnReset).vram = [] := rfl
@[simp] theorem State.powerOnReset_port : (s.powerOnReset).port = s.port := rfl
@[simp] theorem State.powerOnReset_response : (s.powerOnReset).response = none := rfl
@[simp] theorem State.powerOnReset_answer : (s.powerOnReset).answer = none := rfl
@[simp] theorem State.powerOnReset_draws : (s.powerOnReset).draws = s.draws := rfl

end Sys2Proof.Machine
end

