-- ==== Sys2Proof/Laws/Ops.lean ====
section
/-!
SUPPORT. One lemma for each shared operation, and one inversion lemma for each meaning: if it answers a
next state, then exactly one of the cases of the command's rule holds. Proofs cite these and do not
unfold a meaning again.
-/

namespace Sys2Proof.Machine

variable {s t : State}

@[simp] theorem respond_eq (st : BitVec 4) (d : Word) : respond st d s = .next (s.respond st d) := rfl

@[simp] theorem raise_eq (e : ErrorKind) (a b : Word) : raise e a b s = .next (s.raised e a b) := rfl

theorem code_ne_zero (e : ErrorKind) : e.code ≠ 0#4 := by cases e <;> decide

theorem code_ne_halted (e : ErrorKind) : e.code ≠ 15#4 := by cases e <;> decide

/-- The state after BadConfig(16, bpp_eff()) (R33). -/
abbrev State.badBpp (s : State) : State := s.raised .badConfig 16#32 (toWord (bppEff s))

/-- The state after OutOfBounds(WIDTH, HEIGHT) (R224). -/
abbrev State.ragged (s : State) : State :=
  s.raised .outOfBounds (s.width.setWidth 32) (s.height.setWidth 32)

theorem requireBpp_legal {k : Result} (h : legalBpp (bppEff s)) : requireBpp s k = k := if_pos h

theorem requireBpp_illegal {k : Result} (h : ¬ legalBpp (bppEff s)) :
    requireBpp s k = .next s.badBpp := if_neg h

theorem requireGeometry_ok {k : Result} (h : geometryOk s) : requireGeometry s k = k := if_pos h

theorem requireGeometry_ragged {k : Result} (h : ¬ geometryOk s) :
    requireGeometry s k = .next s.ragged := if_neg h

theorem requireCapacity_fits {n m : Nat} {k : Result} (h : n ≤ m) : requireCapacity n m s k = k :=
  if_pos h

theorem requireCapacity_over {n m : Nat} {k : Result} (h : m < n) :
    requireCapacity n m s k = .next (s.raised .capacity (toWord n) (toWord m)) :=
  if_neg (Nat.not_le.mpr h)

theorem requireBpp_cases {k : Result} (h : requireBpp s k = .next t) :
    (¬ legalBpp (bppEff s) ∧ t = s.badBpp) ∨ (legalBpp (bppEff s) ∧ k = .next t) := by
  by_cases hb : legalBpp (bppEff s)
  · rw [requireBpp_legal hb] at h
    exact .inr ⟨hb, h⟩
  · rw [requireBpp_illegal hb] at h
    exact .inl ⟨hb, by injection h with h; exact h.symm⟩

theorem requireGeometry_cases {k : Result} (h : requireGeometry s k = .next t) :
    (¬ geometryOk s ∧ t = s.ragged) ∨ (geometryOk s ∧ k = .next t) := by
  by_cases hg : geometryOk s
  · rw [requireGeometry_ok hg] at h
    exact .inr ⟨hg, h⟩
  · rw [requireGeometry_ragged hg] at h
    exact .inl ⟨hg, by injection h with h; exact h.symm⟩

theorem requireCapacity_cases {n m : Nat} {k : Result} (h : requireCapacity n m s k = .next t) :
    (m < n ∧ t = s.raised .capacity (toWord n) (toWord m)) ∨ (n ≤ m ∧ k = .next t) := by
  rcases Nat.lt_or_ge m n with hc | hc
  · rw [requireCapacity_over hc] at h
    exact .inl ⟨hc, by injection h with h; exact h.symm⟩
  · rw [requireCapacity_fits hc] at h
    exact .inr ⟨hc, h⟩

/-! ### Inversion lemmas, one per meaning -/

theorem execNop_cases (h : execNop s = .next t) : t = s.respond 0#4 0#32 := by
  injection h with h; exact h.symm

theorem execSetcfg_cases {reg : BitVec 4} {imm : BitVec 24} (h : execSetcfg reg imm s = .next t) :
    (Instr.writableReg reg = true ∧ legalSetting reg imm = true ∧
      t = (settleFlags reg (writeReg reg imm s)).respond 0#4 (imm.setWidth 32)) ∨
    (Instr.writableReg reg = true ∧ legalSetting reg imm = false ∧
      t = s.raised .badConfig (reg.setWidth 32) (imm.setWidth 32)) ∨
    (Instr.writableReg reg = false ∧ t = s.raised .illegalCommand (encode (.setcfg reg imm)) 0#32) := by
  unfold execSetcfg at h
  split at h
  next hw =>
    split at h
    next hl => injection h with h; exact .inl ⟨hw, hl, h.symm⟩
    next hl => injection h with h; exact .inr (.inl ⟨hw, eq_false_of_ne_true hl, h.symm⟩)
  next hw => injection h with h; exact .inr (.inr ⟨eq_false_of_ne_true hw, h.symm⟩)

theorem execRdreg_cases {reg : BitVec 4} (h : execRdreg reg s = .next t) :
    t = s.respond 0#4 (readReg reg s) := by
  injection h with h; exact h.symm

theorem execClrst_cases (h : execClrst s = .next t) : t = s.clearError.respond 0#4 s.statusWord := by
  injection h with h; exact h.symm

theorem execReset_cases (h : execReset s = .next t) : t = s.softReset.respond 0#4 0#32 := by
  injection h with h; exact h.symm

theorem execCvtcol_cases {r g b : Byte} (h : execCvtcol r g b s = .next t) :
    t = s.respond 0#4 ((hwcolor r g b).setWidth 32) := by
  injection h with h; exact h.symm

/-- PAL, the results and the response of the successful CVTPAL (R143). -/
abbrev State.converted (s : State) : State :=
  ({ s with pal := s.pal.writeRange 0 (paletteCells s) }.setPalette (BitVec.ofNat 16 (paletteLength s))
    (dupscan s.dupctl (sourceEntries s.ncol.toNat s))).respond 0#4
    (paletteData s (dupscan s.dupctl (sourceEntries s.ncol.toNat s)))

theorem execCvtpal_cases (h : execCvtpal s = .next t) :
    ((padEnabled s = true ∧ padSize s < s.ncol.toNat) ∧
      t = s.raised .paletteOverflow (s.ncol.setWidth 32) (toWord (padSize s))) ∨
    (¬ (padEnabled s = true ∧ padSize s < s.ncol.toNat) ∧ s.params.palEntries < paletteLength s ∧
      t = s.raised .capacity (toWord (paletteLength s)) (toWord s.params.palEntries)) ∨
    (¬ (padEnabled s = true ∧ padSize s < s.ncol.toNat) ∧ paletteLength s ≤ s.params.palEntries ∧
      t = s.converted) := by
  unfold execCvtpal at h
  split at h
  · injection h with h; exact .inl ⟨‹_›, h.symm⟩
  · rcases requireCapacity_cases h with ⟨hc, rfl⟩ | ⟨hc, h⟩
    · exact .inr (.inl ⟨‹_›, hc, rfl⟩)
    · injection h with h; exact .inr (.inr ⟨‹_›, hc, h.symm⟩)

theorem execTload_cases {tx ty : BitVec 14} (h : execTload tx ty s = .next t) :
    (¬ inBounds tx.toNat ty.toNat s ∧
      t = s.raised .outOfBounds (tx.setWidth 32) (ty.setWidth 32)) ∨
    (inBounds tx.toNat ty.toNat s ∧ s.params.pixSize < matrixCells s ∧
      t = s.raised .capacity (toWord (matrixCells s)) (toWord s.params.pixSize)) ∨
    (inBounds tx.toNat ty.toNat s ∧ matrixCells s ≤ s.params.pixSize ∧
      t = (s.setTile (Memory.writeRange [] 0 (extract tx.toNat ty.toNat s))).respond 0#4 0#32) := by
  unfold execTload at h
  split at h
  · rcases requireCapacity_cases h with ⟨hc, rfl⟩ | ⟨hc, h⟩
    · exact .inr (.inl ⟨‹_›, hc, rfl⟩)
    · injection h with h; exact .inr (.inr ⟨‹_›, hc, h.symm⟩)
  · injection h with h; exact .inl ⟨‹_›, h.symm⟩

theorem execTenc_cases (h : execTenc s = .next t) :
    (¬ legalBpp (bppEff s) ∧ t = s.badBpp) ∨
    (legalBpp (bppEff s) ∧ s.status.tv = false ∧ t = s.raised .notReady s.statusWord 0#32) ∨
    (legalBpp (bppEff s) ∧ s.status.tv = true ∧
      t = (s.setEtile (Memory.writeRange [] 0 (encodeTile s.tile.read (bppEff s)))).respond 0#4
        (toWord (bpt s))) := by
  rcases requireBpp_cases h with h | ⟨hb, h⟩
  · exact .inl h
  · split at h
    next htv => injection h with h; exact .inr (.inr ⟨hb, htv, h.symm⟩)
    next htv => injection h with h; exact .inr (.inl ⟨hb, eq_false_of_ne_true htv, h.symm⟩)

theorem execTaddr_cases {tx ty : BitVec 14} (h : execTaddr tx ty s = .next t) :
    (¬ legalBpp (bppEff s) ∧ t = s.badBpp) ∨
    (legalBpp (bppEff s) ∧ ¬ (geometryOk s ∧ inGrid tx.toNat ty.toNat s) ∧
      t = s.raised .outOfBounds (tx.setWidth 32) (ty.setWidth 32)) ∨
    (legalBpp (bppEff s) ∧ (geometryOk s ∧ inGrid tx.toNat ty.toNat s) ∧
      t = (s.setAddr (toWord (tileOffset tx.toNat ty.toNat s))).respond 0#4
        (toWord (tileOffset tx.toNat ty.toNat s))) := by
  rcases requireBpp_cases h with h | ⟨hb, h⟩
  · exact .inl h
  · split at h
    · injection h with h; exact .inr (.inr ⟨hb, ‹_›, h.symm⟩)
    · injection h with h; exact .inr (.inl ⟨hb, ‹_›, h.symm⟩)

theorem execTstore_cases (h : execTstore s = .next t) :
    (¬ legalBpp (bppEff s) ∧ t = s.badBpp) ∨
    (legalBpp (bppEff s) ∧ ¬ (s.status.ev = true ∧ s.status.av = true) ∧
      t = s.raised .notReady s.statusWord 0#32) ∨
    (legalBpp (bppEff s) ∧ (s.status.ev = true ∧ s.status.av = true) ∧
      s.params.vramSize < (storeAddress s).toNat + bpt s ∧
      t = s.raised .capacity (toWord ((storeAddress s).toNat + bpt s)) (toWord s.params.vramSize)) ∨
    (legalBpp (bppEff s) ∧ (s.status.ev = true ∧ s.status.av = true) ∧
      (storeAddress s).toNat + bpt s ≤ s.params.vramSize ∧
      t = { s with vram := s.vram.writeRange (storeAddress s).toNat (encodedCells s) }.respond 0#4
        (storeAddress s)) := by
  rcases requireBpp_cases h with h | ⟨hb, h⟩
  · exact .inl h
  · split at h
    · rcases requireCapacity_cases h with ⟨hc, rfl⟩ | ⟨hc, h⟩
      · exact .inr (.inr (.inl ⟨hb, ‹_›, hc, rfl⟩))
      · injection h with h; exact .inr (.inr (.inr ⟨hb, ‹_›, hc, h.symm⟩))
    · injection h with h; exact .inr (.inl ⟨hb, ‹_›, h.symm⟩)

theorem execVlen_cases (h : execVlen s = .next t) :
    (¬ legalBpp (bppEff s) ∧ t = s.badBpp) ∨
    (legalBpp (bppEff s) ∧ ¬ geometryOk s ∧ t = s.ragged) ∨
    (legalBpp (bppEff s) ∧ geometryOk s ∧
      t = (s.setVlen (toWord (totalLen s))).respond 0#4 (toWord (totalLen s))) := by
  rcases requireBpp_cases h with h | ⟨hb, h⟩
  · exact .inl h
  · rcases requireGeometry_cases h with ⟨hg, h⟩ | ⟨hg, h⟩
    · exact .inr (.inl ⟨hb, hg, h⟩)
    · injection h with h; exact .inr (.inr ⟨hb, hg, h.symm⟩)

theorem execVclr_cases (h : execVclr s = .next t) :
    (¬ legalBpp (bppEff s) ∧ t = s.badBpp) ∨
    (legalBpp (bppEff s) ∧ ¬ geometryOk s ∧ t = s.ragged) ∨
    (legalBpp (bppEff s) ∧ geometryOk s ∧ s.params.vramSize < totalLen s ∧
      t = s.raised .capacity (toWord (totalLen s)) (toWord s.params.vramSize)) ∨
    (legalBpp (bppEff s) ∧ geometryOk s ∧ totalLen s ≤ s.params.vramSize ∧
      t = ({ s with vram := clearedVram s }.setVlen (toWord (totalLen s))).respond 0#4
        (toWord (totalLen s))) := by
  rcases requireBpp_cases h with h | ⟨hb, h⟩
  · exact .inl h
  · rcases requireGeometry_cases h with ⟨hg, h⟩ | ⟨hg, h⟩
    · exact .inr (.inl ⟨hb, hg, h⟩)
    · rcases requireCapacity_cases h with ⟨hc, h⟩ | ⟨hc, h⟩
      · exact .inr (.inr (.inl ⟨hb, hg, hc, h⟩))
      · injection h with h; exact .inr (.inr (.inr ⟨hb, hg, hc, h.symm⟩))

/-- The state after the successful CVTIMG (R192). -/
abbrev State.imaged (s : State) : State :=
  (({ s with vram := imageVram s }.setVlen (toWord (totalLen s))).invalidateTiles).respond 0#4
    (toWord (totalLen s))

theorem execCvtimg_cases (h : execCvtimg s = .next t) :
    (¬ legalBpp (bppEff s) ∧ t = s.badBpp) ∨
    (legalBpp (bppEff s) ∧ ¬ geometryOk s ∧ t = s.ragged) ∨
    (legalBpp (bppEff s) ∧ geometryOk s ∧ s.params.pixSize < matrixCells s ∧
      t = s.raised .capacity (toWord (matrixCells s)) (toWord s.params.pixSize)) ∨
    (legalBpp (bppEff s) ∧ geometryOk s ∧ matrixCells s ≤ s.params.pixSize ∧
      s.params.vramSize < totalLen s ∧
      t = s.raised .capacity (toWord (totalLen s)) (toWord s.params.vramSize)) ∨
    (legalBpp (bppEff s) ∧ geometryOk s ∧ matrixCells s ≤ s.params.pixSize ∧
      totalLen s ≤ s.params.vramSize ∧ t = s.imaged) := by
  rcases requireBpp_cases h with h | ⟨hb, h⟩
  · exact .inl h
  · rcases requireGeometry_cases h with ⟨hg, h⟩ | ⟨hg, h⟩
    · exact .inr (.inl ⟨hb, hg, h⟩)
    · rcases requireCapacity_cases h with ⟨hc, h⟩ | ⟨hc, h⟩
      · exact .inr (.inr (.inl ⟨hb, hg, hc, h⟩))
      · rcases requireCapacity_cases h with ⟨hd, h⟩ | ⟨hd, h⟩
        · exact .inr (.inr (.inr (.inl ⟨hb, hg, hc, hd, h⟩)))
        · injection h with h; exact .inr (.inr (.inr (.inr ⟨hb, hg, hc, hd, h.symm⟩)))

/-! ### The dispatch -/

/-- While halted, only the four commands run; everything else is answered Halted (R120). -/
theorem execute_halted_ok {w : Word} {i : Instr} (hd : decode w = .ok i) (hh : s.halted)
    (hr : runsWhileHalted i = false) : execute w s = answerHalted s := by
  simp [execute, hd, hh, hr]

theorem execute_halted_error {w : Word} {e : DecodeError} (hd : decode w = .error e) (hh : s.halted) :
    execute w s = answerHalted s := by
  unfold execute
  rw [hd]
  exact if_pos hh

theorem execute_runs {w : Word} {i : Instr} (hd : decode w = .ok i)
    (h : ¬ s.halted ∨ runsWhileHalted i = true) : execute w s = exec i s := by
  unfold execute
  rw [hd]
  refine if_neg fun ⟨hh, hr⟩ => ?_
  rcases h with h | h
  · exact h hh
  · rw [hr] at h
    exact Bool.noConfusion h

theorem execute_illegal {w : Word} {e : DecodeError} (hd : decode w = .error e) (hh : ¬ s.halted) :
    execute w s = .next (s.raised .illegalCommand w 0#32) := by
  unfold execute
  rw [hd]
  exact if_neg hh

/-- The step takes the next event of the host and nothing else (R20, R74). -/
theorem step_event {e : HostEvent} {rest : List HostEvent} (h : s.port = e :: rest) :
    step s = handleEvent e { s with port := rest } := by
  unfold step
  rw [h]

theorem step_idle (h : s.port = []) : step s = .next s := by
  unfold step
  rw [h]
  rfl

end Sys2Proof.Machine
end

