-- ==== Sys2Proof/Laws/PerInstr.lean ====
section
/-!
SUPPORT. Statements made of every command as syntax, one lemma per constructor. The family
`OpcodeField`: the top four bits of a command's word are its opcode (R91, R95).
-/

namespace Sys2Proof.Laws

/-- The opcode the map of R95 gives a command. -/
def opcodeNumber (i : Instr) : Nat :=
  match i with
  | .nop => 0
  | .setcfg _ _ => 1
  | .rdreg _ => 2
  | .clrst => 3
  | .reset => 4
  | .cvtcol _ _ _ => 5
  | .cvtpal => 6
  | .tload _ _ => 7
  | .tenc => 8
  | .taddr _ _ => 9
  | .tstore => 10
  | .vlen => 11
  | .vclr => 12
  | .cvtimg => 13

/-- The encoder puts the opcode of R95 in bits 31:28 (R91). -/
def OpcodeField.Statement (i : Instr) : Prop := (opField (encode i)).toNat = opcodeNumber i

theorem OpcodeField.nop : OpcodeField.Statement .nop := by unfold Statement; decide

theorem OpcodeField.setcfg (reg : BitVec 4) (imm : BitVec 24) :
    OpcodeField.Statement (.setcfg reg imm) := by
  have h1 := reg.isLt
  have h2 := imm.isLt
  unfold Statement
  rw [opField_toNat, encode_setcfg_toNat]
  simp only [opcodeNumber]
  omega

theorem OpcodeField.rdreg (reg : BitVec 4) : OpcodeField.Statement (.rdreg reg) := by
  have h1 := reg.isLt
  unfold Statement
  rw [opField_toNat, encode_rdreg_toNat]
  simp only [opcodeNumber]
  omega

theorem OpcodeField.clrst : OpcodeField.Statement .clrst := by unfold Statement; decide

theorem OpcodeField.reset : OpcodeField.Statement .reset := by unfold Statement; decide

theorem OpcodeField.cvtcol (r g b : Byte) : OpcodeField.Statement (.cvtcol r g b) := by
  have h1 := r.isLt
  have h2 := g.isLt
  have h3 := b.isLt
  unfold Statement
  rw [opField_toNat, encode_cvtcol_toNat]
  simp only [opcodeNumber]
  omega

theorem OpcodeField.cvtpal : OpcodeField.Statement .cvtpal := by unfold Statement; decide

theorem OpcodeField.tload (tx ty : BitVec 14) : OpcodeField.Statement (.tload tx ty) := by
  have h1 := tx.isLt
  have h2 := ty.isLt
  unfold Statement
  rw [opField_toNat, encode, encodeT_toNat]
  simp only [opcodeNumber, BitVec.toNat_ofNat]
  omega

theorem OpcodeField.tenc : OpcodeField.Statement .tenc := by unfold Statement; decide

theorem OpcodeField.taddr (tx ty : BitVec 14) : OpcodeField.Statement (.taddr tx ty) := by
  have h1 := tx.isLt
  have h2 := ty.isLt
  unfold Statement
  rw [opField_toNat, encode, encodeT_toNat]
  simp only [opcodeNumber, BitVec.toNat_ofNat]
  omega

theorem OpcodeField.tstore : OpcodeField.Statement .tstore := by unfold Statement; decide

theorem OpcodeField.vlen : OpcodeField.Statement .vlen := by unfold Statement; decide

theorem OpcodeField.vclr : OpcodeField.Statement .vclr := by unfold Statement; decide

theorem OpcodeField.cvtimg : OpcodeField.Statement .cvtimg := by unfold Statement; decide

end Sys2Proof.Laws
end

