-- ==== Sys2Proof/Laws/Run.lean ====
section
/-!
SUPPORT. Laws of runs (R260): runs compose, and the sections of a state whose flag and length are known.
-/

namespace Sys2Proof.Machine

variable {s t : State}

theorem run_zero (s : State) : core.run 0 s = .next s := rfl

/-- One more step at the front of a run. -/
theorem run_succ_of_step (k : Nat) (h : step s = .next t) : core.run (k + 1) s = core.run k t := by
  have hc : core.step s = .next t := h
  simp only [Host.Core.run, hc]

/-- A run goes on from where a shorter one ended. -/
theorem run_add (j k : Nat) (h : core.run j s = .next t) : core.run (j + k) s = core.run k t := by
  induction j generalizing s with
  | zero =>
    have h : s = t := by injection h
    rw [h, Nat.zero_add]
  | succ j ih =>
    rw [Nat.succ_add]
    cases hs : core.step s with
    | next u =>
      rw [run_succ_of_step _ hs] at h ⊢
      exact ih h
    | fault r => simp only [Host.Core.run, hs] at h; cases h
    | refused r => simp only [Host.Core.run, hs] at h; cases h

theorem paletteSection_of_pv {n : BitVec 16} (hf : s.status.pv = true) (hl : s.pallen = some n) :
    s.paletteSection = some ((List.range n.toNat).map s.pal.read) := by
  simp [State.paletteSection, hf, hl]

theorem tileSection_of_lv {n : Word} (hf : s.status.lv = true) (hl : s.vlen = some n) :
    s.tileSection = some ((List.range n.toNat).map s.vram.read) := by
  simp [State.tileSection, hf, hl]

/-! ### The record of a run -/

variable {l : RunRecord}

theorem record_succ_of_step (k : Nat) (h : step s = .next t) :
    RunRecord.after (k + 1) s l = RunRecord.after k t (l.step s t) := by
  simp only [RunRecord.after, h]

/-- The record goes on from where that of a shorter run ended. -/
theorem record_add (j k : Nat) (h : core.run j s = .next t) :
    RunRecord.after (j + k) s l = RunRecord.after k t (RunRecord.after j s l) := by
  induction j generalizing s l with
  | zero =>
    have h : s = t := by injection h
    rw [h, Nat.zero_add]
    rfl
  | succ j ih =>
    rw [Nat.succ_add]
    cases hs : step s with
    | next u =>
      rw [run_succ_of_step _ hs] at h
      rw [record_succ_of_step _ hs, record_succ_of_step _ hs, ih h]
    | fault r => have hc : core.step s = .fault r := hs; simp only [Host.Core.run, hc] at h; cases h
    | refused r => have hc : core.step s = .refused r := hs; simp only [Host.Core.run, hc] at h; cases h

theorem succeededCommand_of {w : Word} {i : Instr} {rest : List HostEvent} {r : Response}
    (hp : s.port = .command w :: rest) (hd : decode w = .ok i) (hr : t.response = some r)
    (h : r.status = 0#4) : succeededCommand s t = some i := by
  simp [succeededCommand, hp, hd, hr, h]

theorem record_step_of_command {i : Instr} (h : succeededCommand s t = some i) :
    l.step s t = l.command i t := by
  simp only [RunRecord.step, h]

theorem record_step_of_none (h : succeededCommand s t = none) : l.step s t = l := by
  simp only [RunRecord.step, h]

/-- A CVTTILE's store converts its subtile, and keeps what was converted. -/
theorem mem_store_same {cfg : TileConfig} {m m' : ImageRecord} {p q : Subtile}
    (h : ImageRecord.store cfg (some p) (some p) m = some m') :
    m'.config = m.config ∧ (q ∈ m'.converted ↔ q = p ∨ q ∈ m.converted) := by
  unfold ImageRecord.store at h
  split at h
  · simp only [↓reduceIte, Option.some.injEq] at h
    subst h
    refine ⟨rfl, ?_⟩
    by_cases hq : q = p <;> simp [hq]
  · cases h

/-- Storing another tile in a slot leaves it not converted. -/
theorem mem_store_other {cfg : TileConfig} {m m' : ImageRecord} {p q x : Subtile} (hpq : p ≠ q)
    (h : ImageRecord.store cfg (some p) (some q) m = some m') :
    m'.config = m.config ∧ (x ∈ m'.converted ↔ x ≠ q ∧ x ∈ m.converted) := by
  unfold ImageRecord.store at h
  split at h
  · simp only [hpq, if_false, Option.some.injEq] at h
    subst h
    exact ⟨rfl, by simp [and_comm]⟩
  · cases h

end Sys2Proof.Machine
end

