-- ==== Sys2Proof/Laws/Tile.lean ====
section
/-!
SUPPORT. The laws of the derived values, the extractor and the encoder: what they depend on, their
lengths, their cells and the bits of a packed byte.
-/

namespace Sys2Proof.Machine

variable {s t : State}

/-- A number given a width is the same number when it is read through its value. -/
theorem setWidth_eq_ofNat {w : Nat} (n : Nat) (v : BitVec w) : v.setWidth n = BitVec.ofNat n v.toNat :=
  (BitVec.ofNat_toNat n v).symm

/-! ### What the derived values depend on -/

theorem bppEff_congr (hb : t.bpp = s.bpp) (hd : t.srcdepth = s.srcdepth) : bppEff t = bppEff s := by
  unfold bppEff; rw [hb, hd]

theorem bpt_congr (hb : t.bpp = s.bpp) (hd : t.srcdepth = s.srcdepth) : bpt t = bpt s := by
  unfold bpt; rw [bppEff_congr hb hd]

theorem geometryOk_congr (hz : t.tilesz = s.tilesz) (hw : t.width = s.width) (hh : t.height = s.height) :
    geometryOk t ↔ geometryOk s := by
  unfold geometryOk; rw [hz, hw, hh]

theorem tileIndex_congr (hz : t.tilesz = s.tilesz) (hw : t.width = s.width) (tx ty : Nat) :
    tileIndex tx ty t = tileIndex tx ty s := by
  simp only [tileIndex, mode8, index8, index16, metatileNumber, horizontalTiles, horizontalMetatiles, hz, hw]

theorem totalSlots_congr (hz : t.tilesz = s.tilesz) (hw : t.width = s.width) (hh : t.height = s.height) :
    totalSlots t = totalSlots s := by
  simp only [totalSlots, mode8, horizontalTiles, verticalTiles, horizontalMetatiles, verticalMetatiles,
    hz, hw, hh]

/-- The tile slot by the mode: raster order in 8×8 mode (R181), the metatile formula otherwise (R183). -/
theorem tileIndex_mode8 (h : mode8 s) (tx ty : Nat) : tileIndex tx ty s = index8 tx ty s := if_pos h

theorem tileIndex_mode16 (h : ¬ mode8 s) (tx ty : Nat) : tileIndex tx ty s = index16 tx ty s := if_neg h

theorem bpt_le (h : legalBpp (bppEff s)) : bpt s ≤ 64 := by
  unfold bpt
  rcases h with h | h | h <;> omega

/-! ### The extractor -/

@[simp] theorem extract_length (tx ty : Nat) : (extract tx ty s).length = 64 := by simp [extract]

theorem extract_getElem? (tx ty i : Nat) (h : i < 64) :
    (extract tx ty s)[i]? = some (s.pix.read (pixelAddress (8 * tx + i % 8) (8 * ty + i / 8) s)) := by
  simp [extract, h]

/-- The extracted cell of row `row` and column `col` (R160). -/
theorem tileOf_extract (tx ty row col : Nat) (hr : row < 8) (hc : col < 8) :
    tileOf (extract tx ty s) (8 * row + col) =
      s.pix.read ((8 * ty + row) * s.width.toNat + (8 * tx + col)) := by
  have h1 : (8 * row + col) % 8 = col := by omega
  have h2 : (8 * row + col) / 8 = row := by omega
  rw [tileOf, extract_getElem? tx ty _ (by omega), h1, h2]
  rfl

/-- A buffer written whole from its first cell reads as the list written. -/
theorem read_filled_buffer {w : Nat} (vs : List (Option (BitVec w))) (a : Nat) :
    (Memory.writeRange [] 0 vs).read a = (vs[a]?).join := by
  rw [Memory.read_writeRange]
  by_cases h : a < vs.length
  · simp [h]
  · rw [if_neg (by omega), List.getElem?_eq_none (by omega)]
    rfl

/-! ### The encoder -/

/-- Bit `7 - col` of a packed byte is the plane's bit of the pixel in column `col` (R65, R163). -/
theorem planeByte_getLsbD (px : Nat → Byte) (bit col : Nat) (h : col < 8) :
    (planeByte px bit).getLsbD (7 - col) = (px col).getLsbD bit := by
  have hr : List.range 8 = [0, 1, 2, 3, 4, 5, 6, 7] := by decide
  unfold planeByte
  rw [hr]
  simp only [List.foldl_cons, List.foldl_nil]
  interval_cases col <;> simp

@[simp] theorem encodeTile_length (tile : Nat → Option Byte) (b : Nat) :
    (encodeTile tile b).length = 8 * b := by simp [encodeTile]

theorem encodeTile_getElem? (tile : Nat → Option Byte) (b off : Nat) (h : off < 8 * b) :
    (encodeTile tile b)[off]? = some (encodeByte tile (off % 16 / 2) (2 * (off / 16) + off % 2)) := by
  simp [encodeTile, h]

/-- The byte of plane-pair block `p`, row `row` and bit `k` of the pair (R105). -/
theorem encodeTile_block (tile : Nat → Option Byte) (b p row k : Nat) (hp : p < b / 2) (hr : row < 8)
    (hk : k < 2) :
    (encodeTile tile b)[16 * p + 2 * row + k]? = some (encodeByte tile row (2 * p + k)) := by
  rw [encodeTile_getElem? tile b _ (by omega)]
  have h1 : (16 * p + 2 * row + k) % 16 / 2 = row := by omega
  have h2 : 2 * ((16 * p + 2 * row + k) / 16) + (16 * p + 2 * row + k) % 2 = 2 * p + k := by omega
  rw [h1, h2]

theorem encodeByte_of_values (tile : Nat → Option Byte) (row bit : Nat)
    (h : ∀ col, col < 8 → (tile (8 * row + col)).isSome = true) :
    encodeByte tile row bit = some (planeByte (fun col => (tile (8 * row + col)).getD 0#8) bit) :=
  if_pos (by simpa using h)

theorem encodeByte_of_missing (tile : Nat → Option Byte) (row bit col : Nat) (hc : col < 8)
    (h : tile (8 * row + col) = none) : encodeByte tile row bit = none := by
  refine if_neg fun ha => ?_
  have := List.all_eq_true.mp ha col (by simpa using hc)
  simp [h] at this

end Sys2Proof.Machine
end

