-- ==== Sys2Proof/Tests/Slice0.lean ====
section
/-!
SUPPORT. Tests: the ill-formed term of each check of WellFormed, the decoding of words written out from
R92 and R95, one-step vectors of spec/95_test_vectors.md, and for every statement with hypotheses a
concrete state and operands that meet all of them.
-/

namespace Sys2Proof.Tests

set_option Elab.async false

open Sys2Proof.Machine Sys2Proof.Claims

/-! ### Helpers -/

/-- The response of an outcome, as two numbers. -/
def responseOf (r : Result) : Option (Nat × Nat) :=
  match r with
  | .next t => t.response.map fun r => (r.status.toNat, r.data.toNat)
  | .fault _ => none
  | .refused _ => none

/-- A projection of the state an outcome goes to. -/
def look {α : Type} (f : State → α) (r : Result) : Option α :=
  match r with
  | .next t => some (f t)
  | .fault _ => none
  | .refused _ => none

/-- A reset state with an image of the given sides, tile size and bitplane count. -/
def image (width height : BitVec 15) (tilesz : BitVec 5) (bpp : BitVec 4) : State :=
  { State.reset with width := width, height := height, tilesz := tilesz, bpp := bpp }

/-- A memory whose first `n` cells are `f 0`, `f 1`, … -/
def filled (n : Nat) (f : Nat → Byte) : Memory 8 := (List.range n).map fun i => (i, f i)

/-- The document's tile: row 0 all 3, the rest 0 (S2). -/
def tileS2 : Memory 8 := filled 64 fun i => if i < 8 then 3#8 else 0#8

/-- An 8 by 8 image with TILE loaded, 2 bitplanes. -/
def loaded : State :=
  { image 8#15 8#15 8#5 2#4 with tile := tileS2, status := { Status.reset with tv := true } }

/-- A state halted with OutOfBounds. -/
def stopped : State := { State.reset with status := { Status.reset with err := 2#4 } }

/-- The sixteen parameters of a small block: 64 bytes of PIX, 256 of VRAM. -/
def small : Params := { pixSize := 64, vramSize := 256, palEntries := 256 }

/-- A colour list of four entries, two of which encode alike. -/
def colours : Memory 24 := [(0, 0#24), (1, 0xFF0000#24), (2, 0x0000FF#24), (3, 0xFA0301#24)]

/-- Four colours to convert, no padding. -/
def coloured : State := { State.reset with ncol := 4#9, col := colours }

/-! ### WellFormed -/

/-- R97: a SETCFG of a read-only register is not well-formed. -/
theorem test_setcfg_of_read_only_register_is_ill_formed :
    (Instr.setcfg 8#4 0#24).wellFormed = false := by decide

theorem test_setcfg_of_writable_register_is_well_formed :
    (Instr.setcfg 7#4 1#24).wellFormed = true := by decide

/-! ### Decoding: words written out bit by bit from R92 and R95 -/

theorem test_decode_nop : decode 0b00000000000000000000000000000000#32 = .ok .nop := by decide
theorem test_decode_setcfg :
    decode 0b00010011000000000000000000010000#32 = .ok (.setcfg 3#4 16#24) := by decide
theorem test_decode_rdreg : decode 0b00101000000000000000000000000000#32 = .ok (.rdreg 8#4) := by decide
theorem test_decode_clrst : decode 0b00110000000000000000000000000000#32 = .ok .clrst := by decide
theorem test_decode_reset : decode 0b01000000000000000000000000000000#32 = .ok .reset := by decide
theorem test_decode_cvtcol :
    decode 0b01010000000100100011010001010110#32 = .ok (.cvtcol 0x12#8 0x34#8 0x56#8) := by decide
theorem test_decode_cvtpal : decode 0b01100000000000000000000000000000#32 = .ok .cvtpal := by decide
theorem test_decode_tload :
    decode 0b01110000000000001000000000000001#32 = .ok (.tload 1#14 2#14) := by decide
theorem test_decode_tenc : decode 0b10000000000000000000000000000000#32 = .ok .tenc := by decide
theorem test_decode_taddr :
    decode 0b10010000000000000100000000010001#32 = .ok (.taddr 17#14 1#14) := by decide
theorem test_decode_tstore : decode 0b10100000000000000000000000000000#32 = .ok .tstore := by decide
theorem test_decode_vlen : decode 0b10110000000000000000000000000000#32 = .ok .vlen := by decide
theorem test_decode_vclr : decode 0b11000000000000000000000000000000#32 = .ok .vclr := by decide
theorem test_decode_cvtimg : decode 0b11010000000000000000000000000000#32 = .ok .cvtimg := by decide

theorem test_decode_reserved_opcodes :
    decode 0xE0000000#32 = .error .reservedOpcode ∧ decode 0xFFFFFFFF#32 = .error .reservedOpcode := by
  decide
theorem test_decode_nonzero_fields :
    decode 0x08000000#32 = .error .nonzeroField ∧ decode 0x20000001#32 = .error .nonzeroField ∧
      decode 0x51000000#32 = .error .nonzeroField := by decide
theorem test_decode_read_only_register : decode 0x18000000#32 = .error .readOnlyRegister := by decide

theorem test_decodeTableWord : decodeTableWord 32 0x70008001 = some (.tload 1#14 2#14) := by decide

theorem test_withFetchWord_runs :
    responseOf (step (State.reset.withFetchWord 32 0x50FF0000)) = some (0, 0x1F) := by decide +kernel

/-! ### Vectors of 95_test_vectors.md -/

/-- Section 2: BadConfig leaves the register unchanged. -/
theorem test_setcfg_bad_value :
    responseOf (execute 0x10000003#32 State.reset) = some (5, 0) ∧
      look (fun t => (t.bpp, t.errinfo1)) (execute 0x10000003#32 State.reset) = some (0#4, 3#32) := by
  decide +kernel

/-- Section 2: with STATUS = 0x3F0, SETCFG BPP, 2 gives STATUS = 0x300. -/
theorem test_setcfg_clears_flags :
    look (fun t => t.statusWord)
      (execute 0x10000002#32 { State.reset with
        status := { err := 0#4, tv := true, ev := true, av := true, lv := true, pv := true,
                    dup := some true } }) = some 0x300#32 := by decide +kernel

/-- Section 2: RDREG TILESZ after reset. -/
theorem test_rdreg_tilesz : responseOf (execute 0x22000000#32 State.reset) = some (0, 8) := by
  decide +kernel

/-- Section 1: a register that holds no value answers status 0. -/
theorem test_rdreg_no_value :
    look (fun t => t.response.map (·.status)) (execute 0x2F000000#32 State.reset) = some (some 0#4) := by
  decide +kernel

/-- Section 2: with STATUS = 0x301, CLRST answers 0x301 and leaves 0x300. -/
theorem test_clrst :
    let s := { State.reset with status := { Status.reset with err := 1#4, pv := true, dup := some true } }
    responseOf (execute 0x30000000#32 s) = some (0, 0x301) ∧
      look (fun t => t.statusWord) (execute 0x30000000#32 s) = some 0x300#32 := by decide +kernel

/-- Section 2: RESET keeps the memories. -/
theorem test_reset_keeps_pix :
    look (fun t => (t.pix, t.width)) (execute 0x40000000#32 { loaded with pix := [(3, 7#8)] }) =
      some ([(3, 7#8)], 0#15) := by decide +kernel

/-- Section 6: the illegal word while halted is answered Halted. -/
theorem test_halted_illegal : responseOf (execute 0xE0000000#32 stopped) = some (15, 2) := by
  decide +kernel

/-- Section 3: 200, 100, 50. -/
theorem test_cvtcol : responseOf (execute 0x50C86432#32 State.reset) = some (0, 0x1999) := by
  decide +kernel

/-- P1: two colours that encode alike give the pair (3, 1). -/
theorem test_cvtpal_duplicate :
    responseOf (execute 0x60000000#32 coloured) = some (0, 0x10004) ∧
      look (fun t => (t.dupcnt, t.dupidx)) (execute 0x60000000#32 coloured) =
        some (some 1#16, some 0x0301#16) := by decide +kernel

/-- Section 3: 256 colours padded to 65535 pass the overflow test and raise Capacity. -/
theorem test_cvtpal_capacity :
    responseOf (execute 0x60000000#32 { State.reset with ncol := 256#9, padctl := 0x1FFFF#17 }) =
      some (7, 65535) := by decide +kernel

/-- Section 4: WIDTH = 16, HEIGHT = 8, PIX[a] = a: TLOAD 1, 0. -/
theorem test_tload :
    look (fun t => (t.tile.read 0, t.tile.read 7, t.tile.read 8, t.tile.read 63))
      (execute 0x70000001#32 { image 16#15 8#15 8#5 0#4 with pix := filled 128 (BitVec.ofNat 8) }) =
      some (some 0x08#8, some 0x0F#8, some 0x18#8, some 0x7F#8) := by decide +kernel

/-- Section 4: the subtile fits, its metatile does not. -/
theorem test_tload_metatile : responseOf (execute 0x70000002#32 (image 24#15 16#15 16#5 0#4)) = some (2, 2) := by
  decide +kernel

/-- S2: the document's tile. -/
theorem test_tenc :
    look (fun t => t.etile.map (·.2)) (execute 0x80000000#32 loaded) =
      some ([0xFF#8, 0xFF#8] ++ List.replicate 14 0#8) := by decide +kernel

/-- Section 4: pixel (3, 2) = 0xA5 at 8 bitplanes: 20 at offsets 6, 22, 39 and 55. -/
theorem test_encode_planes :
    (List.range 64).filter (fun i =>
      (encodeTile (fun k => some (if k = 26 then 0xA5#8 else 0#8)) 8)[i]? = some (some 0x20#8)) =
      [6, 22, 39, 55] := by decide +kernel

/-- P6: TADDR 17, 1 of a 144 by 16 image. -/
theorem test_taddr : responseOf (execute 0x90004011#32 (image 144#15 16#15 16#5 2#4)) = some (0, 784) := by
  decide +kernel

/-- Section 5: the last subtile of the largest 16×16 image. -/
theorem test_taddr_largest :
    responseOf (exec (.taddr 4093#14 4093#14) (image 32752#15 32752#15 16#5 8#4)) =
      some (0, 1072694336) := by decide +kernel

/-- R189's example. -/
theorem test_tstore :
    look (fun t => t.vram.map (·.1))
      (exec .tstore { image 16#15 16#15 16#5 2#4 with
        etile := filled 16 fun i => if i < 2 then 0xFF#8 else 0#8, addr := some 272#32
        status := { Status.reset with tv := true, ev := true, av := true } }) =
      some ((List.range 16).map (272 + ·)) := by decide +kernel

/-- Section 5: 48 by 48, 16×16 mode, 8 bitplanes. -/
theorem test_vlen : responseOf (execute 0xB0000000#32 (image 48#15 48#15 16#5 8#4)) = some (0, 4096) := by
  decide +kernel

/-- Section 5: VRAM_SIZE = 256. -/
theorem test_vclr_capacity :
    responseOf (execute 0xC0000000#32 { image 16#15 16#15 16#5 2#4 with params := small }) =
      some (7, 512) := by decide +kernel

/-- P4's first tile at 2 bitplanes: index = column gives (55 33)×8. -/
theorem test_cvtimg :
    look (fun t => t.vram.map (·.2))
      (execute 0xD0000000#32
        { image 8#15 8#15 8#5 2#4 with pix := filled 64 fun i => BitVec.ofNat 8 (i % 8) }) =
      some (List.replicate 8 [0x55#8, 0x33#8]).flatten := by decide +kernel

/-- A PIX cell that holds no value voids the bytes of its row and no others (R46). -/
theorem test_tenc_unwritten_pixel :
    look (fun t => (t.etile.read 0, t.etile.read 1, t.etile.read 2))
      (exec .tenc { loaded with tile := loaded.tile.filter fun c => c.1 ≠ 5 }) =
      some (none, none, some 0#8) := by decide +kernel

/-- Section 7: a value wider than the cell is refused. -/
theorem test_host_write_too_wide :
    look (fun t => t.answer) (hostWrite 1#4 0#32 0x1000000 State.reset) = some (some .refused) := by
  decide +kernel

/-- Section 3: the byte view of PAL[3] = 0x7C00. -/
theorem test_byte_view :
    look (fun t => t.answer) (hostRead 6#4 7#32 { State.reset with pal := [(3, 0x7C00#16)] }) =
      some (some (.read 0x7C)) := by decide +kernel

/-- R122's example in the notation of R99. -/
theorem test_assembly : assembly (.setcfg 3#4 16#24) = "SETCFG WIDTH, 16" := by decide +kernel

/-- R100: SETPAD 8 is the word of program P1, NOPAD that of its step 17. -/
theorem test_pseudo_commands :
    (setpad 8#16).map encode = [0x16010008#32] ∧ nopad.map encode = [0x16000000#32] := by decide +kernel

/-! ### Witnesses: every statement's hypotheses are met -/

theorem witness_DecodeInvertsEncode : (Instr.setcfg 3#4 16#24).wellFormed = true := by decide

theorem witness_EncodeInvertsDecode : decode 0x70008001#32 = .ok (.tload 1#14 2#14) := by decide

theorem witness_TableRowsMatchTheDecoder :
    1 < 14 ∧ 0x17000001#32 &&& rowMask 1 = BitVec.ofNat 32 (1 * 2 ^ 28) ∧
      decode 0x17000001#32 = .ok (.setcfg 7#4 1#24) := by decide

theorem witness_IllegalWordsRaise :
    ¬ State.reset.halted ∧ IllegalWord 0xE0000000#32 ∧ ¬ IllegalWord 0x13000010#32 := by
  refine ⟨by decide, .inl (by decide), by unfold IllegalWord; decide⟩

theorem witness_DispatchTestsHaltFirst :
    stopped.halted ∧ OneOfTheFour .nop ∧ decode 0#32 = .ok .nop ∧ ¬ State.reset.halted ∧
      decode 0xD0000000#32 = .ok .cvtimg ∧ (∀ i, decode 0xE0000000#32 ≠ .ok i) := by
  refine ⟨by decide, .inl rfl, by decide, by decide, by decide, fun i h => ?_⟩
  have : decode 0xE0000000#32 = .error .reservedOpcode := by decide
  rw [this] at h
  exact absurd h (by simp)

theorem witness_not_RunsHalted : ¬ RunsHalted 0xD0000000#32 := by
  rintro ⟨i, hd, hf⟩
  have h : decode 0xD0000000#32 = .ok .cvtimg := by decide
  rw [h] at hd
  injection hd with hd
  subst hd
  rcases hf with h | ⟨_, h⟩ | h | h <;> exact absurd h (by simp)

theorem witness_HaltedBlockKeepsItsState :
    stopped.halted ∧
      look (fun t => t.answer)
        (step { stopped with port := [.hostWrite 0#4 0#32 3] }) = some (some .written) := by
  decide +kernel

theorem witness_HaltEndsInThreeWays :
    stopped.halted ∧
      look (fun t => t.status.err) (step { stopped with port := [.command 0x30000000#32] }) =
        some 0#4 ∧
      look (fun t => t.status.err) (step { stopped with port := [.command 0xD0000000#32] }) =
        some 2#4 := by decide +kernel

theorem witness_ErrorsLeaveNoPartialOutput : responseOf (exec .tenc State.reset) = some (6, 0) := by
  decide +kernel

theorem witness_StepRunsTheDecodedCommand :
    decode 0xB0000000#32 = .ok .vlen ∧ ¬ State.reset.halted ∧ stopped.halted ∧
      OneOfTheFour (.rdreg 9#4) :=
  ⟨by decide, by decide, by decide, .inr (.inl ⟨_, rfl⟩)⟩

theorem witness_StepTakesOneEvent :
    State.reset.port = [] ∧
      look (fun t => t.port)
        (step { State.reset with port := [.command 0#32, .hostRead 0#4 0#32, .powerOn] }) =
        some [.hostRead 0#4 0#32, .powerOn] := by decide +kernel

theorem witness_LatchedErrorIsReported :
    ¬ State.reset.halted ∧
      look (fun t => t.status.err) (step { State.reset with port := [.command 0x80000000#32] }) =
        some 6#4 := by decide +kernel

theorem witness_FlagsFollowTheTable :
    responseOf (exec .tenc loaded) = some (0, 16) ∧ responseOf (exec .tenc State.reset) = some (6, 0) := by
  decide +kernel

theorem witness_BitplaneCountIsChecked :
    ¬ legalBpp (bppEff { State.reset with srcdepth := 3#4 }) ∧ legalBpp (bppEff State.reset) := by
  decide

theorem witness_NopOnlyResponds :
    ¬ State.reset.halted ∧ (0x08000000#32).toNat / 2 ^ 28 = 0 ∧ (0x08000000#32).toNat ≠ 0 := by decide

theorem witness_SetcfgWritesLegalValues :
    LegalValue (5#4).toNat (256#24).toNat ∧ ¬ LegalValue (5#4).toNat (257#24).toNat ∧
      LegalValue (2#4).toNat (16#24).toNat ∧ 8 ≤ (8#4).toNat := by
  unfold LegalValue
  decide

theorem witness_RdregReadsTheRegister :
    registerContent State.reset 2 = some 8#32 ∧ registerContent State.reset 11 = none ∧
      (0x20000001#32).toNat / 2 ^ 28 = 2 ∧ (0x20000001#32).toNat % 2 ^ 24 ≠ 0 := by decide

theorem witness_ClrstClearsOnlyErr :
    ShowsStatus stopped 2#32 ∧ ¬ State.reset.halted ∧ (0x30000001#32).toNat / 2 ^ 28 = 3 ∧
      (0x30000001#32).toNat % 2 ^ 28 ≠ 0 :=
  ⟨fun d h => by cases d <;> revert h <;> decide, by decide, by decide, by decide⟩

theorem witness_BothResetsApplyTheResetValues :
    { stopped with port := [.powerOn] }.port = [.powerOn] ∧ (0x4000F000#32).toNat / 2 ^ 28 = 4 ∧
      (0x4000F000#32).toNat % 2 ^ 28 ≠ 0 := by decide

/-- A halted state with memories that RESET keeps. -/
def used : State := { stopped with pix := [(3, 7#8)], vram := [(9, 1#8)], width := 24#15, bpp := 8#4 }

theorem witness_ResetConfigurationIsUsable :
    used.params.Legal ∧ Params.Legal { small with pixSize := 2 ^ 30 } ∧
      AfterResetOf used (used.softReset.respond 0#4 0#32) ∧
      (used.softReset.respond 0#4 0#32).pix = [(3, 7#8)] ∧ AfterResetOf used used.powerOnReset :=
  ⟨by decide, by decide, .inr (.inr rfl), rfl, .inl rfl⟩

theorem witness_HwcolorRoundTripBound :
    (7#8).toNat / 8 = (0#8).toNat / 8 ∧ (0x7FFF#16).toNat < 32768 := by decide

theorem witness_CvtcolAnswersTheColour :
    stopped.halted ∧ (0x51000000#32).toNat / 2 ^ 28 = 5 ∧ (0x51000000#32).toNat / 2 ^ 24 % 16 ≠ 0 := by
  decide

theorem witness_CvtpalWritesThePalette :
    ¬ Overflows { coloured with padctl := 0x10004#17 } ∧
      outLength { coloured with padctl := 0x10004#17 } = 4 ∧ 4 ≤ State.reset.params.palEntries ∧
      ¬ Overflows coloured := by
  unfold Overflows
  decide

theorem witness_CvtpalCountsDuplicatePairs :
    coloured.ncol.toNat ≤ 256 ∧ ¬ Overflows coloured ∧ outLength coloured ≤ coloured.params.palEntries ∧
      (∀ i, i < coloured.ncol.toNat → (coloured.col.read i).isSome = true) ∧
      look (fun t => decide ((3, 1) ∈ equalPairs 1 4 t.pal)) (exec .cvtpal coloured) = some true := by
  refine ⟨by decide, by unfold Overflows; decide, by decide, ?_, by decide +kernel⟩
  have : coloured.ncol.toNat = 4 := by decide
  rw [this]
  decide

theorem witness_UnwrittenColoursVoidTheScan :
    let s := { coloured with ncol := 5#9 }
    ¬ Overflows s ∧ outLength s ≤ s.params.palEntries ∧ 4 < s.ncol.toNat ∧ s.col.read 4 = none ∧
      look (fun t => t.dupcnt) (exec .cvtpal s) = some none := by
  refine ⟨by unfold Overflows; decide, by decide, by decide, by decide, by decide +kernel⟩

theorem witness_CvtpalRaisesOverflowThenCapacity :
    Overflows { coloured with padctl := 0x10003#17 } ∧ ¬ Overflows { coloured with padctl := 0x10101#17 } ∧
      { coloured with padctl := 0x10101#17 }.params.palEntries <
        outLength { coloured with padctl := 0x10101#17 } := by
  unfold Overflows
  decide

theorem witness_CvtpalKeepsTheOrder :
    responseOf (exec .cvtpal coloured) = some (0, 0x10004) ∧ 1 < coloured.ncol.toNat ∧
      coloured.col.read 1 = coloured.col.read 1 := by decide +kernel

theorem witness_PathsAreIndependent :
    TileCommand .tenc ∧ responseOf (exec .tenc loaded) = some (0, 16) :=
  ⟨.inr (.inl rfl), by decide +kernel⟩

theorem witness_TloadExtractsTheBlock :
    inBounds 0 0 (image 8#15 8#15 8#5 0#4) ∧ ¬ inBounds 1 0 (image 8#15 8#15 8#5 0#4) ∧
      matrixCells (image 8#15 8#15 8#5 0#4) ≤ small.pixSize ∧
      inBounds 0 0 (image 512#15 256#15 8#5 0#4) ∧
      State.reset.params.pixSize < matrixCells (image 512#15 256#15 8#5 0#4) := by decide

theorem witness_TencEncodesTheTile :
    legalBpp (bppEff loaded) ∧ loaded.status.tv = true ∧ legalBpp (bppEff State.reset) ∧
      State.reset.status.tv = false ∧ ¬ legalBpp (bppEff { State.reset with srcdepth := 6#4 }) ∧
      (∀ col, col < 8 → (loaded.tile.read (8 * 7 + col)).isSome = true) := by
  refine ⟨by decide, by decide, by decide, by decide, by decide, ?_⟩
  decide +kernel

theorem witness_UnwrittenPixelsVoidTheirRows :
    (let s := { loaded with tile := loaded.tile.filter fun c => c.1 ≠ 63 }
     legalBpp (bppEff s) ∧ s.status.tv = true ∧ s.tile.read (8 * 7 + 7) = none ∧
       responseOf (exec .tenc s) = some (0, 16)) ∧
    (let s := image 8#15 8#15 8#5 2#4
     LegalTileSize s ∧ legalBpp (bppEff s) ∧ geometryOk s ∧ matrixCells s ≤ s.params.pixSize ∧
       totalLen s ≤ s.params.vramSize ∧ inGrid 0 0 s ∧ s.pix.read 63 = none ∧
       responseOf (exec .cvtimg s) = some (0, 16)) := by
  refine ⟨⟨by decide, by decide, by decide +kernel, by decide +kernel⟩, .inl rfl, by decide, by decide,
    by decide, by decide, by decide, by decide, by decide +kernel⟩

theorem witness_EncodingTruncatesAndExtends :
    legalBpp 8 ∧ legalBpp 4 ∧ legalBpp 2 ∧ 2 < 4 ∧
      (∀ i, i < 64 → ((fun i => BitVec.ofNat 8 (i % 4)) i).toNat < 2 ^ 2) := by
  refine ⟨by decide, by decide, by decide, by decide, ?_⟩
  decide +kernel

theorem witness_EncodingIsABijection :
    legalBpp 2 ∧ (3#8).toNat < 2 ^ 2 ∧ (List.replicate 16 0xFF#8).length = 8 * 2 := by decide

theorem witness_LayoutIsDisjointAndCovers :
    LegalTileSize (image 48#15 48#15 16#5 8#4) ∧ geometryOk (image 48#15 48#15 16#5 8#4) ∧
      5 < (image 48#15 48#15 16#5 8#4).width.toNat / 8 ∧ totalSlots (image 48#15 48#15 16#5 8#4) = 64 ∧
      tileIndex 5 5 (image 48#15 48#15 16#5 8#4) = 49 ∧ PaddingSlot 48 48 34 ∧
      LegalTileSize (image 24#15 8#15 8#5 4#4) ∧ geometryOk (image 24#15 8#15 8#5 4#4) := by
  refine ⟨.inr rfl, by decide, by decide, by decide, by decide, ⟨by decide, 2, ?_⟩, .inl rfl, by decide⟩
  decide

theorem witness_MetatilesMeetThePlacementInvariants :
    (image 48#15 48#15 16#5 8#4).tilesz = 16#5 ∧ 6 % 8 ≠ 7 := by decide

theorem witness_OffsetsAndLengthsFit :
    LegalTileSize (image 32760#15 32760#15 8#5 8#4) ∧ legalBpp (bppEff (image 32760#15 32760#15 8#5 8#4)) ∧
      geometryOk (image 32760#15 32760#15 8#5 8#4) ∧ inGrid 4094 4094 (image 32760#15 32760#15 8#5 8#4) :=
  ⟨.inl rfl, by decide, by decide, by decide⟩

theorem witness_ModesAgreeAtWidth128 :
    (image 128#15 32#15 8#5 2#4).width.toNat = 128 ∧ geometryOk (image 128#15 32#15 8#5 2#4) ∧
      geometryOk (image 128#15 32#15 16#5 2#4) ∧ inGrid 15 3 (image 128#15 32#15 8#5 2#4) ∧
      (image 48#15 32#15 16#5 2#4).width = (image 48#15 32#15 16#5 8#4).width ∧
      bppEff (image 48#15 32#15 16#5 2#4) ≠ bppEff (image 48#15 32#15 16#5 8#4) := by decide

theorem witness_TaddrComputesTheOffset :
    legalBpp (bppEff (image 16#15 16#15 16#5 2#4)) ∧ geometryOk (image 16#15 16#15 16#5 2#4) ∧
      (1#14).toNat < (image 16#15 16#15 16#5 2#4).width.toNat / 8 ∧
      ¬ geometryOk (image 12#15 8#15 8#5 2#4) ∧ ¬ legalBpp (bppEff { State.reset with srcdepth := 3#4 }) := by
  decide

/-- A state ready for TSTORE at the last tile of a 256-byte VRAM. -/
def ready : State :=
  { image 128#15 8#15 8#5 2#4 with
    params := small, addr := some 240#32
    status := { Status.reset with tv := true, ev := true, av := true } }

theorem witness_TstoreWritesTheTile :
    ready.addr = some 240#32 ∧ legalBpp (bppEff ready) ∧ ready.status.ev = true ∧
      ready.status.av = true ∧ (240#32).toNat + 8 * bppEff ready ≤ ready.params.vramSize ∧
      ready.params.vramSize < (241#32).toNat + 8 * bppEff { ready with addr := some 241#32 } ∧
      State.reset.status.ev = false := by decide

theorem witness_VlenComputesTheLength :
    legalBpp (bppEff (image 16#15 16#15 16#5 2#4)) ∧ geometryOk (image 16#15 16#15 16#5 2#4) ∧
      ¬ geometryOk (image 24#15 16#15 16#5 2#4) := by decide

theorem witness_VclrZeroesTheImage :
    geometryOk (image 16#15 16#15 8#5 2#4) ∧ lengthOf 16 16 8 16 = 64 ∧ 64 ≤ small.vramSize ∧
      small.vramSize < lengthOf 16 16 16 16 := by decide

theorem witness_CvtimgConvertsTheImage :
    LegalTileSize (image 16#15 16#15 16#5 2#4) ∧ legalBpp (bppEff (image 16#15 16#15 16#5 2#4)) ∧
      geometryOk (image 16#15 16#15 16#5 2#4) ∧ 16 * 16 ≤ State.reset.params.pixSize ∧
      lengthOf 16 16 16 16 ≤ State.reset.params.vramSize ∧
      500 < lengthOf 16 16 16 16 ∧ slotOf 16 16 1 1 * 16 + 16 ≤ 500 :=
  ⟨.inr rfl, by decide, by decide, by decide, by decide, by decide, by decide⟩

theorem witness_CvtimgRaisesInOrder :
    small.pixSize < matrixCells (image 16#15 8#15 8#5 2#4) ∧ matrixCells (image 8#15 8#15 8#5 8#4) ≤ small.pixSize ∧
      32 < lengthOf 8 8 8 64 ∧ geometryOk (image 8#15 8#15 8#5 8#4) := by decide

theorem witness_CvttileHasItsNetEffect :
    ¬ ready.halted ∧ LegalTileSize (image 8#15 8#15 8#5 2#4) ∧ geometryOk (image 8#15 8#15 8#5 2#4) ∧
      inGrid 0 0 (image 8#15 8#15 8#5 2#4) ∧ matrixCells (image 8#15 8#15 8#5 2#4) ≤ small.pixSize ∧
      tileOffset 0 0 (image 8#15 8#15 8#5 2#4) + bpt (image 8#15 8#15 8#5 2#4) ≤ small.vramSize :=
  ⟨by decide, .inl rfl, by decide, by decide, by decide, by decide⟩

/-- A 16 by 8 image in 8×8 mode at 2 bitplanes: two subtiles. -/
def pair : State := image 16#15 8#15 8#5 2#4

theorem pair_lists : ListsSubtiles [(1, 0), (0, 0)] pair := by
  refine ⟨fun p => ?_, by decide⟩
  obtain ⟨a, b⟩ := p
  have h1 : horizontalTiles pair = 2 := by decide
  have h2 : verticalTiles pair = 1 := by decide
  simp only [inGrid, h1, h2, List.mem_cons, List.not_mem_nil, or_false, Prod.mk.injEq]
  omega

theorem witness_CvtimgEqualsTileByTile :
    ¬ pair.halted ∧ pair.vram.wf ∧ LegalTileSize pair ∧ legalBpp (bppEff pair) ∧ geometryOk pair ∧
      matrixCells pair ≤ pair.params.pixSize ∧ totalLen pair ≤ pair.params.vramSize ∧
      ListsSubtiles [(1, 0), (0, 0)] pair :=
  ⟨by decide, by decide, .inl rfl, by decide, by decide, by decide, by decide, pair_lists⟩

theorem witness_StaleBuffersAreRefused :
    WritesGeometry (.setcfg 4#4 8#24) ∧ responseOf (exec (.setcfg 4#4 8#24) loaded) = some (0, 8) ∧
      look (fun t => decide (legalBpp (bppEff t))) (exec (.setcfg 4#4 8#24) loaded) = some true ∧
      responseOf (exec (.tload 0#14 0#14) loaded) = some (0, 0) :=
  ⟨⟨_, _, rfl, by decide⟩, by decide +kernel, by decide +kernel, by decide +kernel⟩

theorem witness_HostTransactionsMoveOneCell :
    (65535#32).toNat < State.reset.params.pixSize ∧ 255 < 2 ^ 8 ∧ (255#32).toNat < 256 ∧
      0xFFFFFF < 2 ^ 24 ∧ (511#32).toNat < 2 * State.reset.params.palEntries := by decide

theorem witness_PaletteBytesAreLittleEndian :
    let s := { State.reset with pal := [(255, 0x7C00#16)] }
    255 < s.params.palEntries ∧ s.pal.read 255 = some 0x7C00#16 ∧ (511#32).toNat = 2 * 255 + 1 := by decide

theorem witness_HostRefusalsChangeNothing :
    7 ≤ (7#4).toNat ∧ State.reset.params.pixSize ≤ (65536#32).toNat ∧ 2 ≤ (2#4).toNat ∧
      2 ^ 24 ≤ 0x1000000 := by decide

theorem witness_EachMemoryHasItsWriter :
    look (fun t => t.pix) (handleEvent (.hostWrite 0#4 5#32 3) State.reset) = some [(5, 3#8)] := by
  decide +kernel

/-- A configured state with VLEN computed, ADDR set and a command presented. -/
def measured : State :=
  { image 16#15 16#15 16#5 2#4 with
    vlen := some 512#32, addr := some 272#32
    status := { Status.reset with lv := true, av := true }, port := [.command 0xC0000000#32] }

/-- The invariant is met by a state other than the reset state. -/
theorem witness_StepKeepsTheInvariant : measured.Inv where
  params := by decide
  config := ⟨.inr (.inl rfl), .inr rfl, by decide⟩
  memories := by
    refine ⟨⟨?_, ?_⟩, ⟨?_, ?_⟩, ⟨?_, ?_⟩, ⟨?_, ?_⟩, ⟨?_, ?_⟩, ⟨?_, ?_⟩⟩ <;> decide
  error := .inl rfl
  tile := fun _ => rfl
  etile := ⟨fun _ => rfl, fun h => absurd h (by decide)⟩
  addr := ⟨fun h => absurd h (by decide), fun _ => ⟨by decide, by decide, 1, 1, by decide, by decide⟩⟩
  vlen := ⟨fun h => absurd h (by decide), fun _ => ⟨by decide, by decide, by decide⟩⟩
  palette := ⟨fun _ => ⟨rfl, rfl, rfl, rfl⟩, fun h => absurd h (by decide)⟩
  response := fun _ h => absurd h (by simp [measured, image, State.reset])

theorem witness_step_from_measured :
    responseOf (step measured) = some (0, 512) := by decide +kernel

theorem witness_ConfigurationStaysLegal : (image 48#15 48#15 16#5 8#4).ConfigLegal :=
  ⟨.inr (.inr (.inr rfl)), .inr rfl, by decide⟩

theorem witness_SpacesArePlainPrivateMemory :
    TouchesNoSpace (.setcfg 5#4 3#24) ∧
      look (fun t => t.pix) (step { used with port := [.hostWrite 0#4 4#32 8] }) =
        some [(3, 7#8), (4, 8#8)] ∧
      look (fun t => t.pix) (step { used with port := [.hostRead 0#4 3#32] }) = some [(3, 7#8)] ∧
      (63#32).toNat < cellCount loaded (4#4).toNat ∧ cellValue loaded (4#4).toNat 63 = some 0 :=
  ⟨.inr (.inl ⟨_, _, rfl, by decide⟩), by decide +kernel, by decide +kernel, by decide,
    by decide +kernel⟩

theorem witness_CvtpalPadsWithZeroWords :
    coloured.padctl.getLsbD 16 = false ∧ coloured.ncol.toNat ≤ coloured.params.palEntries ∧
      (let s := { coloured with padctl := 0x10100#17 }
       s.padctl.getLsbD 16 = true ∧ s.ncol.toNat ≤ s.padctl.toNat % 65536 ∧
         s.padctl.toNat % 65536 ≤ s.params.palEntries) := by decide

/-- A state whose DUP holds no value, as CVTPAL over an unwritten colour leaves it. -/
theorem witness_UnknownDupFreesOneBit :
    let s := { coloured with ncol := 5#9 }
    ¬ Overflows s ∧ outLength s ≤ s.params.palEntries ∧
      look (fun t => (t.status.dup, t.status.tv, t.status.ev, decide (legalBpp (bppEff t))))
        (exec .cvtpal s) = some (none, false, false, true) := by
  refine ⟨by unfold Overflows; decide, by decide, by decide +kernel⟩

/-- A run from the power-on reset that writes one colour and sets up a 16 by 8 image. -/
def setupRun : Run where
  start := measured.powerOnReset
  events := [.command 0x13000010#32, .command 0x14000008#32, .hostWrite 1#4 0#32 0xFF0000,
    .command 0x15000001#32]

theorem setupRun_legal : setupRun.Legal :=
  ⟨⟨measured, witness_StepKeepsTheInvariant, .inl rfl⟩, by decide⟩

/-- The statuses of the responses along a run, as they stand after 0, 1, …, k steps. -/
def statuses (k : Nat) (s : State) : List (Option (Option (BitVec 4))) :=
  (List.range (k + 1)).map fun j => look (fun t => t.response.map (·.status)) (core.run j s)

theorem setupRun_statuses :
    statuses 4 setupRun.initial = [some none, some (some 0#4), some (some 0#4), some (some 0#4),
      some (some 0#4)] := by decide +kernel

/-- Statuses that are all 0, read off a list, are the statuses of a run. -/
theorem responsesOk_of_statuses {k : Nat} {s : State}
    (h : ∀ x ∈ statuses k s, x = some none ∨ x = some (some 0#4)) : ResponsesOk k s := by
  intro j hj t r ht hr
  have hm : some (some r.status) ∈ statuses k s :=
    List.mem_map.mpr ⟨j, List.mem_range.mpr (by omega), by simp [look, ht, hr]⟩
  rcases h _ hm with h | h <;> simp at h
  exact h

theorem setupRun_ok : ResponsesOk setupRun.events.length setupRun.initial :=
  responsesOk_of_statuses (by rw [show setupRun.events.length = 4 from rfl, setupRun_statuses]; decide)

/-- VCLR; CVTTILE 0, 0; a TADDR, a CVTCOL and a HostRead; CVTTILE 1, 0; VLEN. -/
def spacedEvents : List HostEvent :=
  spacedTiles [([], (0, 0)), (issue [.taddr 1#14 0#14, .cvtcol 1#8 2#8 3#8] ++ [.hostRead 3#4 0#32], (1, 0))] ++
    issue [.vlen]

theorem spacedRun_ok :
    let whole : Run := { setupRun with events := setupRun.events ++ spacedEvents }
    ResponsesOk whole.events.length whole.initial :=
  responsesOk_of_statuses (by decide +kernel)

theorem quiet_taddr : QuietEvent (.command 0x90000001#32) :=
  ⟨.taddr 1#14 0#14, by decide, by decide, by decide, by decide, by decide, fun _ _ h => by cases h⟩

/-- The image counts as produced with other commands between the tiles (R260), and no longer once a tile has
been stored in another's slot (R257 b). -/
theorem test_image_produced_with_commands_between :
    look (fun t => decide ((Run.record { setupRun with events := setupRun.events ++ spacedEvents }).image =
        some { config := t.tileConfig, converted := [(1, 0), (0, 0)] }))
      (Run.result { setupRun with events := setupRun.events ++ spacedEvents }) = some true ∧
    (Run.record { setupRun with
        events := setupRun.events ++ spacedEvents ++ issue [.taddr 0#14 0#14, .tstore] }).image.map
      (·.converted) = some [(1, 0)] := by decide +kernel

/-- A SETCFG of the value x[3] holds leaves the configuration unchanged; another width before the last tile
ends the record (R257 d). -/
theorem test_image_record_and_configuration :
    let half := setupRun.events ++ issue ([.vclr] ++ cvttile 0#14 0#14)
    (Run.record { setupRun with events := half ++ issue [.setcfg 3#4 16#24] }).image.isSome = true ∧
      (Run.record { setupRun with events := half ++ issue [.setcfg 3#4 24#24] }).image.isSome = false := by
  decide +kernel

theorem witness_RunsLeaveTheirArtifacts :
    setupRun.Legal ∧ ResponsesOk setupRun.events.length setupRun.initial ∧
      ∃ s, setupRun.result = .next s ∧ legalBpp (bppEff s) ∧ geometryOk s ∧
        matrixCells s ≤ s.params.pixSize ∧ totalLen s ≤ s.params.vramSize ∧
        ListsSubtiles [(1, 0), (0, 0)] s ∧ ¬ Overflows s ∧ outLength s ≤ s.params.palEntries := by
  refine ⟨setupRun_legal, setupRun_ok, _, rfl, ?_⟩
  refine ⟨by decide, by decide, by decide, by decide, pair_lists, by unfold Overflows; decide, by decide⟩

/-- The clause on events between the tiles: the two lists of `spacedEvents`. -/
theorem witness_RunsLeaveTheirArtifacts_spaced :
    (∀ e ∈ [HostEvent.command 0x90000001#32, .hostRead 3#4 0#32], QuietEvent e) ∧
      issue [.taddr 1#14 0#14] = [.command 0x90000001#32] ∧
      ListsSubtiles ([([], (1, 0)), ([], (0, 0))].map (Prod.snd : List HostEvent × Subtile → Subtile)) pair := by
  refine ⟨?_, by decide, pair_lists⟩
  intro e he
  rcases List.mem_cons.mp he with rfl | he
  · exact quiet_taddr
  · rw [List.mem_singleton.mp he]
    trivial

/-- The VramImage of R192's example, an image of two tiles at 2 bitplanes, at the end of a run. -/
theorem test_tileSection_after_cvtimg :
    look (fun t => t.tileSection.map List.length)
      (Run.result { setupRun with events := setupRun.events ++ issue [.cvtimg] }) = some (some 32) := by
  decide +kernel


theorem witness_AllResponsesOkMeansSuccess :
    ¬ State.reset.halted ∧
      look (fun t => t.response.map (·.status))
        (core.run 1 { State.reset with port := [.command 0xB0000000#32] }) = some (some 0#4) := by
  decide +kernel

end Sys2Proof.Tests
end

namespace Sys2Proof.Machine

variable {s t : State}

/-! ### What the control port and the host port can do -/

/-- `execute` answers in one of the three ways of R120: the command runs, or PBE is halted and the word is
not one of the four commands, or the word is illegal. -/
theorem execute_cases {w : Word} (h : execute w s = .next t) :
    (∃ i, decode w = .ok i ∧ (¬ s.halted ∨ runsWhileHalted i = true) ∧ exec i s = .next t) ∨
    (s.halted ∧ (∀ i, decode w = .ok i → runsWhileHalted i = false) ∧
      t = s.respond 15#4 (s.status.err.setWidth 32)) ∨
    (¬ s.halted ∧ (∃ e, decode w = .error e) ∧ t = s.raised .illegalCommand w 0#32) := by
  cases hd : decode w with
  | ok i =>
    by_cases hr : ¬ s.halted ∨ runsWhileHalted i = true
    · rw [execute_runs hd hr] at h
      exact .inl ⟨i, rfl, hr, h⟩
    · obtain ⟨hh, hf⟩ := not_or.mp hr
      have hf := eq_false_of_ne_true hf
      rw [execute_halted_ok hd (not_not.mp hh) hf] at h
      injection h with h
      exact .inr (.inl ⟨not_not.mp hh, fun j hj => by injection hj with hj; rwa [← hj], h.symm⟩)
  | error e =>
    by_cases hh : s.halted
    · rw [execute_halted_error hd hh] at h
      injection h with h
      exact .inr (.inl ⟨hh, nofun, h.symm⟩)
    · rw [execute_illegal hd hh] at h
      injection h with h
      exact .inr (.inr ⟨hh, ⟨e, rfl⟩, h.symm⟩)

/-- A HostRead only delivers its answer (R70, R71). -/
theorem hostRead_cases {space : BitVec 4} {addr : Word} (h : hostRead space addr s = .next t) :
    (addr.toNat < spaceCells space s ∧ t = s.reply (.read (spaceRead space addr.toNat s))) ∨
    (¬ addr.toNat < spaceCells space s ∧ t = s.reply .refused) := by
  unfold hostRead at h
  split at h
  next ha => injection h with h; exact .inl ⟨ha, h.symm⟩
  next ha => injection h with h; exact .inr ⟨ha, h.symm⟩

/-- A HostWrite is refused, or stores its value in one cell of PIX or of COL (R70, R71). -/
theorem hostWrite_cases {space : BitVec 4} {addr : Word} {value : Nat}
    (h : hostWrite space addr value s = .next t) :
    (space.toNat = 0 ∧ addr.toNat < s.params.pixSize ∧ value < 2 ^ 8 ∧
      t = { s with pix := s.pix.write addr.toNat (BitVec.ofNat 8 value) }.reply .written) ∨
    (space.toNat = 1 ∧ addr.toNat < colEntries ∧ value < 2 ^ 24 ∧
      t = { s with col := s.col.write addr.toNat (BitVec.ofNat 24 value) }.reply .written) ∨
    t = s.reply .refused := by
  unfold hostWrite at h
  split at h
  next ha =>
    split at h
    next hs =>
      rw [spaceCells, hs] at ha
      split at h
      next hv => injection h with h; exact .inl ⟨hs, ha, hv, h.symm⟩
      next => injection h with h; exact .inr (.inr h.symm)
    next hs =>
      rw [spaceCells, hs] at ha
      split at h
      next hv => injection h with h; exact .inr (.inl ⟨hs, ha, hv, h.symm⟩)
      next => injection h with h; exact .inr (.inr h.symm)
    next => injection h with h; exact .inr (.inr h.symm)
  next => injection h with h; exact .inr (.inr h.symm)

/-! ### The settings: the sizes of R6 and the eight writable registers -/

/-- The values only SETCFG and the resets may change: the sizes (never changed, R6) and x[0..7] (R21). -/
structure Settings where
  params : Params
  bpp : BitVec 4
  srcdepth : BitVec 4
  tilesz : BitVec 5
  width : BitVec 15
  height : BitVec 15
  ncol : BitVec 9
  padctl : BitVec 17
  dupctl : BitVec 1

/-- The settings of a state. -/
def State.settings (s : State) : Settings :=
  { params := s.params, bpp := s.bpp, srcdepth := s.srcdepth, tilesz := s.tilesz, width := s.width
    height := s.height, ncol := s.ncol, padctl := s.padctl, dupctl := s.dupctl }

/-- No command but SETCFG and RESET changes a setting, whether it succeeds or fails (R21, R226). -/
theorem exec_settings {i : Instr} (hset : ∀ reg imm, i ≠ .setcfg reg imm) (hreset : i ≠ .reset)
    (h : exec i s = .next t) : t.settings = s.settings := by
  cases i with
  | nop => rw [execNop_cases h]; rfl
  | setcfg reg imm => exact absurd rfl (hset reg imm)
  | rdreg reg => rw [execRdreg_cases h]; rfl
  | clrst => rw [execClrst_cases h]; rfl
  | reset => exact absurd rfl hreset
  | cvtcol r g b => rw [execCvtcol_cases h]; rfl
  | cvtpal => rcases execCvtpal_cases h with ⟨-, rfl⟩ | ⟨-, -, rfl⟩ | ⟨-, -, rfl⟩ <;> rfl
  | tload tx ty => rcases execTload_cases h with ⟨-, rfl⟩ | ⟨-, -, rfl⟩ | ⟨-, -, rfl⟩ <;> rfl
  | tenc => rcases execTenc_cases h with ⟨-, rfl⟩ | ⟨-, -, rfl⟩ | ⟨-, -, rfl⟩ <;> rfl
  | taddr tx ty => rcases execTaddr_cases h with ⟨-, rfl⟩ | ⟨-, -, rfl⟩ | ⟨-, -, rfl⟩ <;> rfl
  | tstore =>
    rcases execTstore_cases h with ⟨-, rfl⟩ | ⟨-, -, rfl⟩ | ⟨-, -, -, rfl⟩ | ⟨-, -, -, rfl⟩ <;> rfl
  | vlen => rcases execVlen_cases h with ⟨-, rfl⟩ | ⟨-, -, rfl⟩ | ⟨-, -, rfl⟩ <;> rfl
  | vclr =>
    rcases execVclr_cases h with ⟨-, rfl⟩ | ⟨-, -, rfl⟩ | ⟨-, -, -, rfl⟩ | ⟨-, -, -, rfl⟩ <;> rfl
  | cvtimg =>
    rcases execCvtimg_cases h with
      ⟨-, rfl⟩ | ⟨-, -, rfl⟩ | ⟨-, -, -, rfl⟩ | ⟨-, -, -, -, rfl⟩ | ⟨-, -, -, -, rfl⟩ <;> rfl

/-- Neither transaction of the host port changes a setting (R70, R71). -/
theorem hostRead_settings {space : BitVec 4} {addr : Word} (h : hostRead space addr s = .next t) :
    t.settings = s.settings := by
  rcases hostRead_cases h with ⟨-, rfl⟩ | ⟨-, rfl⟩ <;> rfl

theorem hostWrite_settings {space : BitVec 4} {addr : Word} {value : Nat}
    (h : hostWrite space addr value s = .next t) : t.settings = s.settings := by
  rcases hostWrite_cases h with ⟨-, -, -, rfl⟩ | ⟨-, -, -, rfl⟩ | rfl <;> rfl

/-! ### Writing a register -/

section WriteReg

variable (reg : BitVec 4) (imm : BitVec 24) (s : State)

@[simp] theorem writeReg_params : (writeReg reg imm s).params = s.params := by
  unfold writeReg
  split <;> rfl

theorem writeReg_bpp :
    (writeReg reg imm s).bpp = if reg.toNat = 0 then imm.setWidth 4 else s.bpp := by
  unfold writeReg
  split <;> simp_all

theorem writeReg_tilesz :
    (writeReg reg imm s).tilesz = if reg.toNat = 2 then imm.setWidth 5 else s.tilesz := by
  unfold writeReg
  split <;> simp_all

theorem writeReg_ncol :
    (writeReg reg imm s).ncol = if reg.toNat = 5 then imm.setWidth 9 else s.ncol := by
  unfold writeReg
  split <;> simp_all

/-- Clearing the flags of the tile path leaves every setting (R40). -/
@[simp] theorem settleFlags_settings : (settleFlags reg s).settings = s.settings := by
  unfold settleFlags
  split <;> rfl

end WriteReg

/-! ### The legal configuration -/

/-- `t` follows on `s` with the same sizes and with a legal configuration, if `s` had one (R6, R24, R26,
R28). -/
def State.KeepsConfig (s t : State) : Prop := (s.ConfigLegal → t.ConfigLegal) ∧ t.params = s.params

theorem keepsConfig_of_settings (h : t.settings = s.settings) : s.KeepsConfig t := by
  injection h with hparams hbpp _ htilesz _ _ hncol
  refine ⟨?_, hparams⟩
  unfold State.ConfigLegal
  rw [hbpp, htilesz, hncol]
  exact id

/-- A value SETCFG accepts keeps BPP, TILESZ and NCOL legal, whichever register it is written to (R122). -/
theorem configLegal_writeReg {reg : BitVec 4} {imm : BitVec 24} (hl : legalSetting reg imm = true)
    (hs : s.ConfigLegal) : (writeReg reg imm s).ConfigLegal := by
  obtain ⟨hbpp, htilesz, hncol⟩ := hs
  refine ⟨?_, ?_, ?_⟩
  · rw [writeReg_bpp]
    split
    next hr =>
      have hv : imm.toNat = 0 ∨ imm.toNat = 2 ∨ imm.toNat = 4 ∨ imm.toNat = 8 := by
        simpa [legalSetting, hr] using hl
      rw [setWidth_eq_ofNat]
      rcases hv with hv | hv | hv | hv <;> rw [hv] <;> decide
    next => exact hbpp
  · rw [writeReg_tilesz]
    split
    next hr =>
      have hv : imm.toNat = 8 ∨ imm.toNat = 16 := by simpa [legalSetting, hr] using hl
      rw [setWidth_eq_ofNat]
      rcases hv with hv | hv <;> rw [hv] <;> decide
    next => exact htilesz
  · rw [writeReg_ncol]
    split
    next hr =>
      have hv : imm.toNat ≤ 256 := by simpa [legalSetting, hr] using hl
      rw [BitVec.toNat_setWidth]
      exact (Nat.mod_le _ _).trans hv
    next => exact hncol

theorem execSetcfg_keepsConfig {reg : BitVec 4} {imm : BitVec 24} (h : execSetcfg reg imm s = .next t) :
    s.KeepsConfig t := by
  rcases execSetcfg_cases h with ⟨-, hl, rfl⟩ | ⟨-, -, rfl⟩ | ⟨-, rfl⟩
  · obtain ⟨hlegal, hparams⟩ := keepsConfig_of_settings (settleFlags_settings reg (writeReg reg imm s))
    exact ⟨fun hs => hlegal (configLegal_writeReg hl hs), hparams.trans (writeReg_params reg imm s)⟩
  · exact keepsConfig_of_settings rfl
  · exact keepsConfig_of_settings rfl

/-- Both resets leave BPP = 0, TILESZ = 8 and NCOL = 0 (R251). -/
theorem softReset_keepsConfig : s.KeepsConfig s.softReset :=
  ⟨fun _ => ⟨.inl rfl, .inl rfl, Nat.zero_le _⟩, rfl⟩

theorem powerOnReset_keepsConfig : s.KeepsConfig s.powerOnReset :=
  ⟨fun _ => ⟨.inl rfl, .inl rfl, Nat.zero_le _⟩, rfl⟩

theorem exec_keepsConfig {i : Instr} (h : exec i s = .next t) : s.KeepsConfig t := by
  by_cases hset : ∃ reg imm, i = .setcfg reg imm
  · obtain ⟨reg, imm, rfl⟩ := hset
    exact execSetcfg_keepsConfig h
  by_cases hreset : i = .reset
  · subst hreset
    rw [execReset_cases h]
    exact softReset_keepsConfig
  · exact keepsConfig_of_settings (exec_settings (fun reg imm hi => hset ⟨reg, imm, hi⟩) hreset h)

theorem execute_keepsConfig {w : Word} (h : execute w s = .next t) : s.KeepsConfig t := by
  rcases execute_cases h with ⟨i, -, -, h⟩ | ⟨-, -, rfl⟩ | ⟨-, -, rfl⟩
  · exact exec_keepsConfig h
  · exact keepsConfig_of_settings rfl
  · exact keepsConfig_of_settings rfl

theorem handleEvent_keepsConfig {e : HostEvent} (h : handleEvent e s = .next t) : s.KeepsConfig t := by
  cases e with
  | command w => exact execute_keepsConfig h
  | hostRead space addr => exact keepsConfig_of_settings (hostRead_settings h)
  | hostWrite space addr value => exact keepsConfig_of_settings (hostWrite_settings h)
  | powerOn => injection h with h; exact h ▸ powerOnReset_keepsConfig

theorem step_keepsConfig (h : step s = .next t) : s.KeepsConfig t := by
  cases hp : s.port with
  | nil =>
    rw [step_idle hp] at h
    injection h with h
    exact keepsConfig_of_settings (h ▸ rfl)
  | cons e rest =>
    rw [step_event hp] at h
    -- taking the event off the port changes neither the sizes nor a register
    exact handleEvent_keepsConfig (s := { s with port := rest }) h

/-- Settles O55: every event either leaves the settings, or is a SETCFG of a legal value, or a reset. -/
theorem configurationStaysLegal : Obligations.ConfigurationStaysLegal := by
  intro s t hs h
  obtain ⟨hlegal, hparams⟩ := step_keepsConfig h
  exact ⟨hlegal hs, hparams⟩

end Sys2Proof.Machine

namespace Sys2Proof.Machine

open Sys2Proof.Claims

variable {s t : State}

/-! ### The two ways a command can end

Every command either raises an error, which changes no more than error entry does (R226, R227), or passes all
its tests and has its effect. `exec_outcome` says so once; the rules about flags, memories and the invariant
are read off from it. -/

/-- The command passes every test its rule makes before the first write (R122 to R192). -/
def State.Accepts (s : State) : Instr → Prop
  | .nop | .rdreg _ | .clrst | .reset | .cvtcol _ _ _ => True
  | .setcfg reg imm => Instr.writableReg reg = true ∧ legalSetting reg imm = true
  | .cvtpal =>
    ¬ (padEnabled s = true ∧ padSize s < s.ncol.toNat) ∧ paletteLength s ≤ s.params.palEntries
  | .tload tx ty => inBounds tx.toNat ty.toNat s ∧ matrixCells s ≤ s.params.pixSize
  | .tenc => legalBpp (bppEff s) ∧ s.status.tv = true
  | .taddr tx ty => legalBpp (bppEff s) ∧ geometryOk s ∧ inGrid tx.toNat ty.toNat s
  | .tstore =>
    legalBpp (bppEff s) ∧ (s.status.ev = true ∧ s.status.av = true) ∧
      (storeAddress s).toNat + bpt s ≤ s.params.vramSize
  | .vlen => legalBpp (bppEff s) ∧ geometryOk s
  | .vclr => legalBpp (bppEff s) ∧ geometryOk s ∧ totalLen s ≤ s.params.vramSize
  | .cvtimg =>
    legalBpp (bppEff s) ∧ geometryOk s ∧ matrixCells s ≤ s.params.pixSize ∧
      totalLen s ≤ s.params.vramSize

/-- The state a successful command leaves, before it responds. -/
def State.effect (s : State) : Instr → State
  | .nop | .rdreg _ | .cvtcol _ _ _ => s
  | .setcfg reg imm => settleFlags reg (writeReg reg imm s)
  | .clrst => s.clearError
  | .reset => s.softReset
  | .cvtpal =>
    { s with pal := s.pal.writeRange 0 (paletteCells s) }.setPalette (BitVec.ofNat 16 (paletteLength s))
      (dupscan s.dupctl (sourceEntries s.ncol.toNat s))
  | .tload tx ty => s.setTile (Memory.writeRange [] 0 (extract tx.toNat ty.toNat s))
  | .tenc => s.setEtile (Memory.writeRange [] 0 (encodeTile s.tile.read (bppEff s)))
  | .taddr tx ty => s.setAddr (toWord (tileOffset tx.toNat ty.toNat s))
  | .tstore => { s with vram := s.vram.writeRange (storeAddress s).toNat (encodedCells s) }
  | .vlen => s.setVlen (toWord (totalLen s))
  | .vclr => { s with vram := clearedVram s }.setVlen (toWord (totalLen s))
  | .cvtimg => ({ s with vram := imageVram s }.setVlen (toWord (totalLen s))).invalidateTiles

/-- A command raises an error, or is accepted, has its effect and responds with status 0 (R226, R227). -/
theorem exec_outcome {i : Instr} (h : exec i s = .next t) :
    (∃ e info0 info1, t = s.raised e info0 info1) ∨
    (s.Accepts i ∧ ∃ data, t = (s.effect i).respond 0#4 data) := by
  cases i with
  | nop => exact .inr ⟨trivial, _, execNop_cases h⟩
  | setcfg reg imm =>
    rcases execSetcfg_cases h with ⟨hw, hl, h⟩ | ⟨-, -, h⟩ | ⟨-, h⟩
    · exact .inr ⟨⟨hw, hl⟩, _, h⟩
    · exact .inl ⟨_, _, _, h⟩
    · exact .inl ⟨_, _, _, h⟩
  | rdreg reg => exact .inr ⟨trivial, _, execRdreg_cases h⟩
  | clrst => exact .inr ⟨trivial, _, execClrst_cases h⟩
  | reset => exact .inr ⟨trivial, _, execReset_cases h⟩
  | cvtcol r g b => exact .inr ⟨trivial, _, execCvtcol_cases h⟩
  | cvtpal =>
    rcases execCvtpal_cases h with ⟨-, h⟩ | ⟨-, -, h⟩ | ⟨ho, hc, h⟩
    · exact .inl ⟨_, _, _, h⟩
    · exact .inl ⟨_, _, _, h⟩
    · exact .inr ⟨⟨ho, hc⟩, _, h⟩
  | tload tx ty =>
    rcases execTload_cases h with ⟨-, h⟩ | ⟨-, -, h⟩ | ⟨hin, hc, h⟩
    · exact .inl ⟨_, _, _, h⟩
    · exact .inl ⟨_, _, _, h⟩
    · exact .inr ⟨⟨hin, hc⟩, _, h⟩
  | tenc =>
    rcases execTenc_cases h with ⟨-, h⟩ | ⟨-, -, h⟩ | ⟨hb, htv, h⟩
    · exact .inl ⟨_, _, _, h⟩
    · exact .inl ⟨_, _, _, h⟩
    · exact .inr ⟨⟨hb, htv⟩, _, h⟩
  | taddr tx ty =>
    rcases execTaddr_cases h with ⟨-, h⟩ | ⟨-, -, h⟩ | ⟨hb, hg, h⟩
    · exact .inl ⟨_, _, _, h⟩
    · exact .inl ⟨_, _, _, h⟩
    · exact .inr ⟨⟨hb, hg⟩, _, h⟩
  | tstore =>
    rcases execTstore_cases h with ⟨-, h⟩ | ⟨-, -, h⟩ | ⟨-, -, -, h⟩ | ⟨hb, hf, hc, h⟩
    · exact .inl ⟨_, _, _, h⟩
    · exact .inl ⟨_, _, _, h⟩
    · exact .inl ⟨_, _, _, h⟩
    · exact .inr ⟨⟨hb, hf, hc⟩, _, h⟩
  | vlen =>
    rcases execVlen_cases h with ⟨-, h⟩ | ⟨-, -, h⟩ | ⟨hb, hg, h⟩
    · exact .inl ⟨_, _, _, h⟩
    · exact .inl ⟨_, _, _, h⟩
    · exact .inr ⟨⟨hb, hg⟩, _, h⟩
  | vclr =>
    rcases execVclr_cases h with ⟨-, h⟩ | ⟨-, -, h⟩ | ⟨-, -, -, h⟩ | ⟨hb, hg, hc, h⟩
    · exact .inl ⟨_, _, _, h⟩
    · exact .inl ⟨_, _, _, h⟩
    · exact .inl ⟨_, _, _, h⟩
    · exact .inr ⟨⟨hb, hg, hc⟩, _, h⟩
  | cvtimg =>
    rcases execCvtimg_cases h with
      ⟨-, h⟩ | ⟨-, -, h⟩ | ⟨-, -, -, h⟩ | ⟨-, -, -, -, h⟩ | ⟨hb, hg, hp, hv, h⟩
    · exact .inl ⟨_, _, _, h⟩
    · exact .inl ⟨_, _, _, h⟩
    · exact .inl ⟨_, _, _, h⟩
    · exact .inl ⟨_, _, _, h⟩
    · exact .inr ⟨⟨hb, hg, hp, hv⟩, _, h⟩

/-- A command that responds with status 0 was accepted and had its effect. -/
theorem exec_succeeded {i : Instr} {r : Response} (h : exec i s = .next t) (hr : t.response = some r)
    (h0 : r.status = 0#4) : s.Accepts i ∧ ∃ data, t = (s.effect i).respond 0#4 data := by
  rcases exec_outcome h with ⟨e, info0, info1, rfl⟩ | h
  · injection hr with hr
    subst hr
    exact absurd h0 (code_ne_zero e)
  · exact h

/-- A command that responds with another status raised an error. -/
theorem exec_failed {i : Instr} {r : Response} (h : exec i s = .next t) (hr : t.response = some r)
    (h0 : r.status ≠ 0#4) : ∃ e info0 info1, t = s.raised e info0 info1 := by
  rcases exec_outcome h with h | ⟨-, data, rfl⟩
  · exact h
  · injection hr with hr
    subst hr
    exact absurd rfl h0

/-! ### Every command and every event ends in a next state -/

theorem ite_answers {p : Prop} [Decidable p] {k l : Result} (hk : ∃ t, k = .next t)
    (hl : ∃ t, l = .next t) : ∃ t, (if p then k else l) = .next t := by
  split
  · exact hk
  · exact hl

theorem requireBpp_answers {k : Result} (hk : ∃ t, k = .next t) : ∃ t, requireBpp s k = .next t :=
  ite_answers hk ⟨_, rfl⟩

theorem requireGeometry_answers {k : Result} (hk : ∃ t, k = .next t) :
    ∃ t, requireGeometry s k = .next t :=
  ite_answers hk ⟨_, rfl⟩

theorem requireCapacity_answers {n m : Nat} {k : Result} (hk : ∃ t, k = .next t) :
    ∃ t, requireCapacity n m s k = .next t :=
  ite_answers hk ⟨_, rfl⟩

/-- No command hangs, faults or is refused (R259). -/
theorem exec_answers (i : Instr) (s : State) : ∃ t, exec i s = .next t := by
  cases i with
  | nop => exact ⟨_, rfl⟩
  | setcfg reg imm => exact ite_answers (ite_answers ⟨_, rfl⟩ ⟨_, rfl⟩) ⟨_, rfl⟩
  | rdreg reg => exact ⟨_, rfl⟩
  | clrst => exact ⟨_, rfl⟩
  | reset => exact ⟨_, rfl⟩
  | cvtcol r g b => exact ⟨_, rfl⟩
  | cvtpal => exact ite_answers ⟨_, rfl⟩ (requireCapacity_answers ⟨_, rfl⟩)
  | tload tx ty => exact ite_answers (requireCapacity_answers ⟨_, rfl⟩) ⟨_, rfl⟩
  | tenc => exact requireBpp_answers (ite_answers ⟨_, rfl⟩ ⟨_, rfl⟩)
  | taddr tx ty => exact requireBpp_answers (ite_answers ⟨_, rfl⟩ ⟨_, rfl⟩)
  | tstore => exact requireBpp_answers (ite_answers (requireCapacity_answers ⟨_, rfl⟩) ⟨_, rfl⟩)
  | vlen => exact requireBpp_answers (requireGeometry_answers ⟨_, rfl⟩)
  | vclr => exact requireBpp_answers (requireGeometry_answers (requireCapacity_answers ⟨_, rfl⟩))
  | cvtimg =>
    exact requireBpp_answers (requireGeometry_answers
      (requireCapacity_answers (requireCapacity_answers ⟨_, rfl⟩)))

theorem execute_answers (w : Word) (s : State) : ∃ t, execute w s = .next t := by
  unfold execute
  split
  · exact ite_answers ⟨_, rfl⟩ (exec_answers _ s)
  · exact ite_answers ⟨_, rfl⟩ ⟨_, rfl⟩

theorem hostWrite_answers (space : BitVec 4) (addr : Word) (value : Nat) (s : State) :
    ∃ t, hostWrite space addr value s = .next t := by
  unfold hostWrite
  refine ite_answers ?_ ⟨_, rfl⟩
  split
  · exact ite_answers ⟨_, rfl⟩ ⟨_, rfl⟩
  · exact ite_answers ⟨_, rfl⟩ ⟨_, rfl⟩
  · exact ⟨_, rfl⟩

theorem handleEvent_answers (e : HostEvent) (s : State) : ∃ t, handleEvent e s = .next t := by
  cases e with
  | command w => exact execute_answers w s
  | hostRead space addr => exact ite_answers ⟨_, rfl⟩ ⟨_, rfl⟩
  | hostWrite space addr value => exact hostWrite_answers space addr value s
  | powerOn => exact ⟨_, rfl⟩

/-! ### What SETCFG writes -/

/-- The state with other settings. -/
def State.withSettings (s : State) (c : Settings) : State :=
  { s with
    params := c.params, bpp := c.bpp, srcdepth := c.srcdepth, tilesz := c.tilesz, width := c.width
    height := c.height, ncol := c.ncol, padctl := c.padctl, dupctl := c.dupctl }

/-- Writing a register changes settings only (R21). -/
theorem writeReg_eq_withSettings (reg : BitVec 4) (imm : BitVec 24) (s : State) :
    writeReg reg imm s = s.withSettings (writeReg reg imm s).settings := by
  unfold writeReg
  split <;> rfl

/-- Writing one of x[5..7] changes the palette settings only. -/
theorem writeReg_of_palette_register {reg : BitVec 4} (hr : 4 < reg.toNat) (imm : BitVec 24) (s : State) :
    writeReg reg imm s =
      { s with
        ncol := (writeReg reg imm s).ncol, padctl := (writeReg reg imm s).padctl
        dupctl := (writeReg reg imm s).dupctl } := by
  unfold writeReg
  split <;> simp_all

theorem settleFlags_of_geometry {reg : BitVec 4} (hr : reg.toNat ≤ 4) :
    settleFlags reg s = s.invalidateGeometry := if_pos hr

theorem settleFlags_of_palette {reg : BitVec 4} (hr : 4 < reg.toNat) : settleFlags reg s = s :=
  if_neg (Nat.not_le.mpr hr)

/-- A successful SETCFG of x[0..4] (R40, R122). -/
theorem effect_setcfg_geometry {reg : BitVec 4} (hr : reg.toNat ≤ 4) (imm : BitVec 24) (s : State) :
    s.effect (.setcfg reg imm) =
      (s.withSettings (writeReg reg imm s).settings).invalidateGeometry :=
  (settleFlags_of_geometry hr).trans
    (congrArg State.invalidateGeometry (writeReg_eq_withSettings reg imm s))

/-- A successful SETCFG of x[5..7] (R122). -/
theorem effect_setcfg_palette {reg : BitVec 4} (hr : 4 < reg.toNat) (imm : BitVec 24) (s : State) :
    s.effect (.setcfg reg imm) =
      { s with
        ncol := (writeReg reg imm s).ncol, padctl := (writeReg reg imm s).padctl
        dupctl := (writeReg reg imm s).dupctl } :=
  (settleFlags_of_palette hr).trans (writeReg_of_palette_register hr imm s)

/-! ### What no command changes -/

/-- PIX and COL (R43), and the events the host has yet to present (R74). -/
theorem effect_host_side (i : Instr) (s : State) :
    (s.effect i).pix = s.pix ∧ (s.effect i).col = s.col ∧ (s.effect i).port = s.port := by
  cases i with
  | setcfg reg imm =>
    rcases Nat.lt_or_ge 4 reg.toNat with hr | hr
    · rw [effect_setcfg_palette hr]
      exact ⟨rfl, rfl, rfl⟩
    · rw [effect_setcfg_geometry hr]
      exact ⟨rfl, rfl, rfl⟩
  | _ => exact ⟨rfl, rfl, rfl⟩

theorem exec_host_side {i : Instr} (h : exec i s = .next t) :
    t.pix = s.pix ∧ t.col = s.col ∧ t.port = s.port := by
  rcases exec_outcome h with ⟨e, info0, info1, rfl⟩ | ⟨-, data, rfl⟩
  · exact ⟨rfl, rfl, rfl⟩
  · exact effect_host_side i s

theorem execute_host_side {w : Word} (h : execute w s = .next t) :
    t.pix = s.pix ∧ t.col = s.col ∧ t.port = s.port := by
  rcases execute_cases h with ⟨i, -, -, h⟩ | ⟨-, -, rfl⟩ | ⟨-, -, rfl⟩
  · exact exec_host_side h
  · exact ⟨rfl, rfl, rfl⟩
  · exact ⟨rfl, rfl, rfl⟩

/-- No event changes the events still to come (R74). -/
theorem handleEvent_port {e : HostEvent} (h : handleEvent e s = .next t) : t.port = s.port := by
  cases e with
  | command w => exact (execute_host_side h).2.2
  | hostRead space addr => rcases hostRead_cases h with ⟨-, rfl⟩ | ⟨-, rfl⟩ <;> rfl
  | hostWrite space addr value =>
    rcases hostWrite_cases h with ⟨-, -, -, rfl⟩ | ⟨-, -, -, rfl⟩ | rfl <;> rfl
  | powerOn => injection h with h; exact h ▸ rfl

/-- Settles O12: every event is answered, and none touches the events behind it. -/
theorem stepTakesOneEvent : Obligations.StepTakesOneEvent := by
  intro s
  refine ⟨step_idle, fun e rest hp => ?_⟩
  obtain ⟨t, ht⟩ := handleEvent_answers e { s with port := rest }
  exact ⟨t, (step_event hp).trans ht, handleEvent_port ht⟩

/-- Settles O52, by the effects of the commands and the three ends of a transaction. -/
theorem eachMemoryHasItsWriter : Obligations.EachMemoryHasItsWriter := by
  refine ⟨fun w s t h => ?_, ?_⟩
  · obtain ⟨hpix, hcol, -⟩ := execute_host_side h
    exact ⟨hpix, hcol⟩
  · rintro e s t (⟨space, addr, rfl⟩ | ⟨space, addr, value, rfl⟩) h
    · rcases hostRead_cases h with ⟨-, rfl⟩ | ⟨-, rfl⟩ <;> rfl
    · rcases hostWrite_cases h with ⟨-, -, -, rfl⟩ | ⟨-, -, -, rfl⟩ | rfl <;> rfl

/-! ### Where the subtiles lie in VRAM -/

/-- A position of a raster of `w` columns and `h` rows lies below `w * h`. -/
theorem raster_lt {w h x y : Nat} (hx : x < w) (hy : y < h) : y * w + x < w * h :=
  calc y * w + x < y * w + w := Nat.add_lt_add_left hx _
    _ = (y + 1) * w := (Nat.succ_mul y w).symm
    _ ≤ h * w := Nat.mul_le_mul_right w hy
    _ = w * h := Nat.mul_comm h w

/-- With 16×16 blocks that tile the image, a subtile's metatile lies in the grid of metatiles (R35). -/
theorem metatile_in_grid {tx ty : Nat} (hz : s.tilesz = 16#5) (hg : geometryOk s) (h : inGrid tx ty s) :
    tx / 2 < horizontalMetatiles s ∧ ty / 2 < verticalMetatiles s := by
  obtain ⟨hw, hh⟩ := hg
  obtain ⟨hx, hy⟩ := h
  have h16 : s.tilesz.toNat = 16 := by rw [hz]; rfl
  rw [h16] at hw hh
  unfold horizontalTiles verticalTiles at *
  unfold horizontalMetatiles verticalMetatiles
  omega

/-- A subtile's slot is one of the slots of the image (R181, R183, R185). -/
theorem tileIndex_lt_totalSlots {tx ty : Nat} (hz : LegalTileSize s) (hg : geometryOk s)
    (h : inGrid tx ty s) : tileIndex tx ty s < totalSlots s := by
  rcases hz with hz | hz
  · rw [tileIndex_mode8 hz, totalSlots, if_pos hz]
    exact raster_lt h.1 h.2
  · have h8 : ¬ mode8 s := by unfold mode8; rw [hz]; decide
    obtain ⟨hx, hy⟩ := metatile_in_grid hz hg h
    have hm : metatileNumber tx ty s < horizontalMetatiles s * verticalMetatiles s := raster_lt hx hy
    rw [tileIndex_mode16 h8, totalSlots, if_neg h8]
    unfold index16 metatileBase ceil8
    omega

/-- A subtile's bytes lie inside the image (R185). -/
theorem tileOffset_add_bpt_le_totalLen {tx ty : Nat} (hz : LegalTileSize s) (hg : geometryOk s)
    (h : inGrid tx ty s) : tileOffset tx ty s + bpt s ≤ totalLen s :=
  calc tileIndex tx ty s * bpt s + bpt s = (tileIndex tx ty s + 1) * bpt s := (Nat.succ_mul _ _).symm
    _ ≤ totalSlots s * bpt s := Nat.mul_le_mul_right _ (tileIndex_lt_totalSlots hz hg h)

theorem mem_subtiles (s : State) (p : Nat × Nat) : p ∈ subtiles s ↔ inGrid p.1 p.2 s := by
  obtain ⟨tx, ty⟩ := p
  simp [subtiles, and_comm]

@[simp] theorem subtileBytes_length (tx ty : Nat) (s : State) : (subtileBytes tx ty s).length = bpt s :=
  encodeTile_length _ _

@[simp] theorem encodedCells_length (s : State) : (encodedCells s).length = bpt s := by
  simp [encodedCells]

/-- The image's VRAM is in canonical form and inside its space, when the image fits (R192). -/
theorem imageVram_legal (hz : LegalTileSize s) (hg : geometryOk s)
    (hfit : totalLen s ≤ s.params.vramSize) (hv : s.vram.wf ∧ s.vram.below s.params.vramSize) :
    (imageVram s).wf ∧ (imageVram s).below s.params.vramSize := by
  refine List.foldlRecOn (motive := fun m => Memory.wf m ∧ Memory.below m s.params.vramSize)
    (subtiles s) _ ?_ ?_
  · exact ⟨Memory.wf_writeRange _ _ _ hv.1,
      Memory.below_writeRange _ _ _ _ hv.2 (by simpa using hfit)⟩
  · intro m hm p hp
    have hlen := tileOffset_add_bpt_le_totalLen hz hg ((mem_subtiles s p).mp hp)
    exact ⟨Memory.wf_writeRange _ _ _ hm.1,
      Memory.below_writeRange _ _ _ _ hm.2 (by rw [subtileBytes_length]; omega)⟩

/-! ### The palette: its length and the scan -/

@[simp] theorem sourceEntries_length (n : Nat) (s : State) : (sourceEntries n s).length = n := by
  simp [sourceEntries]

/-- Without overflow the cells CVTPAL writes are as many as the Palette's length (R143, R144). -/
theorem paletteCells_length (h : ¬ (padEnabled s = true ∧ padSize s < s.ncol.toNat)) :
    (paletteCells s).length = paletteLength s := by
  have hn : s.ncol.toNat ≤ paletteLength s := by
    unfold paletteLength
    split
    next hp => exact Nat.not_lt.mp fun hlt => h ⟨hp, hlt⟩
    next => exact Nat.le_refl _
  simp only [paletteCells, List.length_append, sourceEntries_length, zeroCells_length]
  omega

/-- Lists of at most `i` elements for each `i` below `n` have together at most `n choose 2`. -/
theorem length_flatMap_range_le {α : Type} (f : Nat → List α) (hf : ∀ i, (f i).length ≤ i) (n : Nat) :
    ((List.range n).flatMap f).length ≤ n.choose 2 := by
  induction n with
  | zero => exact Nat.zero_le _
  | succ n ih =>
    have hc : (n + 1).choose 2 = n + n.choose 2 := by
      rw [Nat.choose_succ_succ' n 1, Nat.choose_one_right]
    have := hf n
    simp only [List.range_succ, List.flatMap_append, List.flatMap_singleton, List.length_append]
    omega

/-- There are at most as many duplicate pairs as pairs (R146). -/
theorem duplicatePairs_length_le (lo : Nat) (ws : List (Option HwColour)) :
    (duplicatePairs lo ws).length ≤ ws.length.choose 2 := by
  refine length_flatMap_range_le _ (fun i => ?_) _
  rw [List.length_map]
  exact (List.length_filter_le _ _).trans (List.length_range).le

/-- The scan of at most 256 entries counts at most 32640 pairs, and gives 0 as the first pair when it counts
none (R39, R146). -/
theorem dupscan_bounds {dup0 : BitVec 1} {ws : List (Option HwColour)} {c i : BitVec 16}
    (hn : ws.length ≤ 256) (h : dupscan dup0 ws = some (c, i)) :
    c.toNat ≤ 32640 ∧ (c = 0#16 → i = 0#16) := by
  have hle : (duplicatePairs (scanBound dup0) ws).length ≤ 32640 :=
    calc _ ≤ ws.length.choose 2 := duplicatePairs_length_le _ ws
      _ ≤ Nat.choose 256 2 := Nat.choose_le_choose 2 hn
      _ = 32640 := by rw [Nat.choose_two_right]
  unfold dupscan at h
  split at h
  next =>
    simp only [Option.some.injEq, Prod.mk.injEq] at h
    obtain ⟨rfl, rfl⟩ := h
    have hcnt : (BitVec.ofNat 16 (duplicatePairs (scanBound dup0) ws).length).toNat =
        (duplicatePairs (scanBound dup0) ws).length := by
      rw [BitVec.toNat_ofNat]
      omega
    refine ⟨hcnt.trans_le hle, fun h0 => ?_⟩
    rw [h0] at hcnt
    rw [List.length_eq_zero_iff.mp hcnt.symm]
    rfl
  next => cases h

/-! ### Each update keeps the invariant -/

/-- A buffer filled from its first cell is in canonical form and inside its space. -/
theorem filledBuffer_legal {w n : Nat} {vs : List (Option (BitVec w))} (h : vs.length ≤ n) :
    (Memory.writeRange [] 0 vs).wf ∧ (Memory.writeRange [] 0 vs).below n :=
  ⟨Memory.wf_writeRange _ _ _ Memory.wf_nil,
    Memory.below_writeRange _ _ _ _ (Memory.below_nil n) (by omega)⟩

namespace State.Inv

theorem respond {status : BitVec 4} (h : s.Inv)
    (hst : status = 0#4 ∨ status = 15#4 ∨ ∃ e : ErrorKind, status = e.code) (data : Word) :
    (s.respond status data).Inv :=
  { h with response := fun r hr => by injection hr with hr; exact hr ▸ hst }

theorem raised (h : s.Inv) (e : ErrorKind) (info0 info1 : Word) : (s.raised e info0 info1).Inv :=
  { h with
    error := .inr ⟨e, rfl⟩
    response := fun r hr => by injection hr with hr; exact hr ▸ .inr (.inr ⟨e, rfl⟩) }

theorem clearError (h : s.Inv) : s.clearError.Inv := { h with error := .inl rfl }

theorem reply (h : s.Inv) (a : HostAnswer) : (s.reply a).Inv := { h with }

theorem withPort (h : s.Inv) (port : List HostEvent) : State.Inv { s with port := port } := { h with }

theorem withPix {m : Memory 8} (h : s.Inv) (hm : m.wf ∧ m.below s.params.pixSize) :
    State.Inv { s with pix := m } :=
  { h with memories := ⟨hm, h.memories.2⟩ }

theorem withCol {m : Memory 24} (h : s.Inv) (hm : m.wf ∧ m.below colEntries) :
    State.Inv { s with col := m } :=
  let ⟨hpix, _, hrest⟩ := h.memories
  { h with memories := ⟨hpix, hm, hrest⟩ }

theorem withVram {m : Memory 8} (h : s.Inv) (hm : m.wf ∧ m.below s.params.vramSize) :
    State.Inv { s with vram := m } :=
  let ⟨hpix, hcol, hpal, _, hbuffers⟩ := h.memories
  { h with memories := ⟨hpix, hcol, hpal, hm, hbuffers⟩ }

/-- A loaded TILE voids ETILE with EV (R40, R46). -/
theorem setTile {m : Memory 8} (h : s.Inv) (hm : m.wf ∧ m.below bufferCells) : (s.setTile m).Inv :=
  let ⟨hpix, hcol, hpal, hvram, _, _⟩ := h.memories
  { h with
    memories := ⟨hpix, hcol, hpal, hvram, hm, Memory.wf_nil, Memory.below_nil _⟩
    tile := nofun
    etile := ⟨fun _ => rfl, nofun⟩ }

theorem setEtile (h : s.Inv) (hb : legalBpp (bppEff s)) (htv : s.status.tv = true) :
    (s.setEtile (Memory.writeRange [] 0 (encodeTile s.tile.read (bppEff s)))).Inv :=
  let ⟨hpix, hcol, hpal, hvram, htile, _⟩ := h.memories
  { h with
    memories := ⟨hpix, hcol, hpal, hvram, htile,
      filledBuffer_legal ((encodeTile_length _ _).trans_le (bpt_le hb))⟩
    etile := ⟨nofun, fun _ => ⟨htv, hb, rfl⟩⟩ }

theorem setAddr {tx ty : Nat} (h : s.Inv) (hb : legalBpp (bppEff s)) (hg : geometryOk s)
    (hin : inGrid tx ty s) : (s.setAddr (toWord (tileOffset tx ty s))).Inv :=
  { h with addr := ⟨nofun, fun _ => ⟨hb, hg, tx, ty, hin, rfl⟩⟩ }

theorem setVlen (h : s.Inv) (hb : legalBpp (bppEff s)) (hg : geometryOk s) :
    (s.setVlen (toWord (totalLen s))).Inv :=
  { h with vlen := ⟨nofun, fun _ => ⟨hb, hg, rfl⟩⟩ }

theorem invalidateTiles (h : s.Inv) : s.invalidateTiles.Inv :=
  let ⟨hpix, hcol, hpal, hvram, _, _⟩ := h.memories
  { h with
    memories := ⟨hpix, hcol, hpal, hvram, ⟨Memory.wf_nil, Memory.below_nil _⟩,
      ⟨Memory.wf_nil, Memory.below_nil _⟩⟩
    tile := fun _ => rfl
    etile := ⟨fun _ => rfl, nofun⟩
    addr := ⟨fun _ => rfl, nofun⟩ }

/-- New settings void everything computed from the old geometry (R40, R46). -/
theorem invalidateGeometry {c : Settings} (h : s.Inv) (hp : c.params = s.params)
    (hc : (s.withSettings c).ConfigLegal) : (s.withSettings c).invalidateGeometry.Inv := by
  obtain ⟨params, bpp, srcdepth, tilesz, width, height, ncol, padctl, dupctl⟩ := c
  subst hp
  obtain ⟨hpix, hcol, hpal, hvram, -, -⟩ := h.memories
  exact
    { h with
      config := hc
      memories := ⟨hpix, hcol, hpal, hvram, ⟨Memory.wf_nil, Memory.below_nil _⟩,
        ⟨Memory.wf_nil, Memory.below_nil _⟩⟩
      tile := fun _ => rfl
      etile := ⟨fun _ => rfl, nofun⟩
      addr := ⟨fun _ => rfl, nofun⟩
      vlen := ⟨fun _ => rfl, nofun⟩ }

/-- The palette registers are no part of what the other flags guard (R148). -/
theorem withPaletteSettings {ncol : BitVec 9} (h : s.Inv) (hn : ncol.toNat ≤ 256) (padctl : BitVec 17)
    (dupctl : BitVec 1) : State.Inv { s with ncol := ncol, padctl := padctl, dupctl := dupctl } :=
  let ⟨hbpp, htilesz, _⟩ := h.config
  { h with config := ⟨hbpp, htilesz, hn⟩ }

theorem convertPalette {m : Memory 16} {len : BitVec 16} {scan : Option (BitVec 16 × BitVec 16)}
    (h : s.Inv) (hm : m.wf ∧ m.below s.params.palEntries) (hlen : len.toNat ≤ s.params.palEntries)
    (hscan : ∀ c i, scan = some (c, i) → c.toNat ≤ 32640 ∧ (c = 0#16 → i = 0#16)) :
    ({ s with pal := m }.setPalette len scan).Inv := by
  obtain ⟨hpix, hcol, -, hrest⟩ := h.memories
  refine
    { h with
      memories := ⟨hpix, hcol, hm, hrest⟩
      palette := ⟨nofun, fun _ => ⟨⟨len, rfl, hlen⟩, ?_⟩⟩ }
  cases scan with
  | none => exact .inl ⟨rfl, rfl, rfl⟩
  | some p => exact .inr ⟨p.1, p.2, rfl, rfl, rfl, hscan p.1 p.2 rfl⟩

end State.Inv

/-- Settles O53: every register has its reset value and no cell is listed. -/
theorem resetMeetsTheInvariant : Obligations.ResetMeetsTheInvariant where
  params := by decide
  config := ⟨.inl rfl, .inl rfl, Nat.zero_le _⟩
  memories := by
    refine ⟨?_, ?_, ?_, ?_, ?_, ?_⟩ <;> exact ⟨Memory.wf_nil, Memory.below_nil _⟩
  error := .inl rfl
  tile := fun _ => rfl
  etile := ⟨fun _ => rfl, nofun⟩
  addr := ⟨fun _ => rfl, nofun⟩
  vlen := ⟨fun _ => rfl, nofun⟩
  palette := ⟨fun _ => ⟨rfl, rfl, rfl, rfl⟩, nofun⟩
  response := nofun

theorem State.Inv.powerOnReset (h : s.Inv) : s.powerOnReset.Inv :=
  { resetMeetsTheInvariant with
    params := h.params
    memories := by
      refine ⟨?_, ?_, ?_, ?_, ?_, ?_⟩ <;> exact ⟨Memory.wf_nil, Memory.below_nil _⟩
    palette := ⟨fun _ => ⟨rfl, rfl, rfl, rfl⟩, nofun⟩ }

theorem State.Inv.softReset (h : s.Inv) : s.softReset.Inv :=
  let ⟨hpix, hcol, hpal, hvram, _, _⟩ := h.memories
  { resetMeetsTheInvariant with
    params := h.params
    memories := ⟨hpix, hcol, hpal, hvram, ⟨Memory.wf_nil, Memory.below_nil _⟩,
      ⟨Memory.wf_nil, Memory.below_nil _⟩⟩
    palette := ⟨fun _ => ⟨rfl, rfl, rfl, rfl⟩, nofun⟩
    response := h.response }

/-! ### Every step keeps the invariant -/

theorem effect_setcfg_inv {reg : BitVec 4} {imm : BitVec 24} (h : s.Inv)
    (hl : legalSetting reg imm = true) : (s.effect (.setcfg reg imm)).Inv := by
  have hc := configLegal_writeReg hl h.config
  rcases Nat.lt_or_ge 4 reg.toNat with hr | hr
  · rw [effect_setcfg_palette hr]
    exact h.withPaletteSettings hc.2.2 _ _
  · rw [effect_setcfg_geometry hr]
    exact h.invalidateGeometry (writeReg_params reg imm s) hc

/-- The effect of an accepted command keeps the invariant. -/
theorem effect_inv {i : Instr} (h : s.Inv) (ha : s.Accepts i) : (s.effect i).Inv := by
  cases i with
  | nop => exact h
  | rdreg reg => exact h
  | cvtcol r g b => exact h
  | setcfg reg imm => exact effect_setcfg_inv h ha.2
  | clrst => exact h.clearError
  | reset => exact h.softReset
  | cvtpal =>
    obtain ⟨ho, hfit⟩ := ha
    obtain ⟨-, -, hpal, -⟩ := h.memories
    have hlen := paletteCells_length ho
    refine h.convertPalette ⟨Memory.wf_writeRange _ _ _ hpal.1, ?_⟩ ?_ fun c i hscan => ?_
    · exact Memory.below_writeRange _ _ _ _ hpal.2 (by omega)
    · rw [BitVec.toNat_ofNat]
      exact (Nat.mod_le _ _).trans hfit
    · exact dupscan_bounds ((sourceEntries_length _ s).trans_le h.config.2.2) hscan
  | tload tx ty => exact h.setTile (filledBuffer_legal (extract_length _ _).le)
  | tenc => exact h.setEtile ha.1 ha.2
  | taddr tx ty =>
    obtain ⟨hb, hg, hin⟩ := ha
    exact h.setAddr hb hg hin
  | tstore =>
    obtain ⟨-, -, hfit⟩ := ha
    obtain ⟨-, -, -, hvram, -⟩ := h.memories
    exact h.withVram ⟨Memory.wf_writeRange _ _ _ hvram.1,
      Memory.below_writeRange _ _ _ _ hvram.2 (by rwa [encodedCells_length])⟩
  | vlen => exact h.setVlen ha.1 ha.2
  | vclr =>
    obtain ⟨hb, hg, hfit⟩ := ha
    obtain ⟨-, -, -, hvram, -⟩ := h.memories
    have hcleared : State.Inv { s with vram := clearedVram s } :=
      h.withVram ⟨Memory.wf_writeRange _ _ _ hvram.1,
        Memory.below_writeRange _ _ _ _ hvram.2 (by simpa using hfit)⟩
    exact hcleared.setVlen hb hg
  | cvtimg =>
    obtain ⟨hb, hg, -, hfit⟩ := ha
    obtain ⟨-, -, -, hvram, -⟩ := h.memories
    have himage : State.Inv { s with vram := imageVram s } :=
      h.withVram (imageVram_legal h.config.2.1 hg hfit hvram)
    exact (himage.setVlen hb hg).invalidateTiles

theorem exec_inv {i : Instr} (hs : s.Inv) (h : exec i s = .next t) : t.Inv := by
  rcases exec_outcome h with ⟨e, info0, info1, rfl⟩ | ⟨ha, data, rfl⟩
  · exact hs.raised e info0 info1
  · exact (effect_inv hs ha).respond (.inl rfl) data

theorem execute_inv {w : Word} (hs : s.Inv) (h : execute w s = .next t) : t.Inv := by
  rcases execute_cases h with ⟨i, -, -, h⟩ | ⟨-, -, rfl⟩ | ⟨-, -, rfl⟩
  · exact exec_inv hs h
  · exact hs.respond (.inr (.inl rfl)) _
  · exact hs.raised _ _ _

theorem hostWrite_inv {space : BitVec 4} {addr : Word} {value : Nat} (hs : s.Inv)
    (h : hostWrite space addr value s = .next t) : t.Inv := by
  obtain ⟨hpix, hcol, -⟩ := hs.memories
  rcases hostWrite_cases h with ⟨-, ha, -, rfl⟩ | ⟨-, ha, -, rfl⟩ | rfl
  · exact (hs.withPix ⟨Memory.wf_write _ _ _ hpix.1, Memory.below_write _ _ _ _ hpix.2 ha⟩).reply _
  · exact (hs.withCol ⟨Memory.wf_write _ _ _ hcol.1, Memory.below_write _ _ _ _ hcol.2 ha⟩).reply _
  · exact hs.reply _

theorem handleEvent_inv {e : HostEvent} (hs : s.Inv) (h : handleEvent e s = .next t) : t.Inv := by
  cases e with
  | command w => exact execute_inv hs h
  | hostRead space addr =>
    rcases hostRead_cases h with ⟨-, rfl⟩ | ⟨-, rfl⟩
    · exact hs.reply _
    · exact hs.reply _
  | hostWrite space addr value => exact hostWrite_inv hs h
  | powerOn => injection h with h; exact h ▸ hs.powerOnReset

/-- Settles O54: every update a command or an event makes keeps the invariant, clause by clause. -/
theorem stepKeepsTheInvariant : Obligations.StepKeepsTheInvariant := by
  intro s t hs h
  cases hp : s.port with
  | nil =>
    rw [step_idle hp] at h
    injection h with h
    exact h ▸ hs
  | cons e rest =>
    rw [step_event hp] at h
    exact handleEvent_inv (hs.withPort rest) h

/-! ### The flags -/

theorem writesGeometry_setcfg (reg : BitVec 4) (imm : BitVec 24) :
    WritesGeometry (.setcfg reg imm) ↔ reg.toNat ≤ 4 := by
  simp [WritesGeometry]

/-- DUP of a scan's result says whether the count is above 0 (R143). -/
theorem dup_of_scan {scan : Option (BitVec 16 × BitVec 16)} {c : BitVec 16}
    (h : scan.map Prod.fst = some c) :
    (scan.map fun p => decide (p.1 ≠ 0#16)) = some (decide (0 < c.toNat)) := by
  obtain ⟨p, rfl, rfl⟩ := Option.map_eq_some_iff.mp h
  simp [Nat.pos_iff_ne_zero, BitVec.toNat_eq]

/-- Settles O14: error entry keeps every flag, and the effect of each command is its row of R40's table. -/
theorem flagsFollowTheTable : Obligations.FlagsFollowTheTable := by
  intro i s t r h hr
  refine ⟨fun h0 => ?_, fun h0 => ?_⟩
  · obtain ⟨e, info0, info1, rfl⟩ := exec_failed h hr h0
    exact ⟨rfl, rfl, rfl, rfl, rfl, rfl⟩
  · obtain ⟨-, data, rfl⟩ := exec_succeeded h hr h0
    cases i with
    | setcfg reg imm =>
      rcases Nat.lt_or_ge 4 reg.toNat with hr | hr
      · simp [effect_setcfg_palette hr, writesGeometry_setcfg, hr]
      · simp [effect_setcfg_geometry hr, writesGeometry_setcfg, hr, State.withSettings]
    | cvtpal =>
      have hdup := @dup_of_scan (dupscan s.dupctl (sourceEntries s.ncol.toNat s))
      simp_all [WritesGeometry, State.effect]
    | _ => simp [WritesGeometry, State.effect, Status.reset]

/-- SETCFG of x[0..4], CVTIMG and RESET leave neither TILE nor ETILE valid (R40). -/
theorem effect_clears_tile_flags {i : Instr} (h : WritesGeometry i ∨ i = .cvtimg ∨ i = .reset) :
    (s.effect i).status.tv = false ∧ (s.effect i).status.ev = false := by
  rcases h with ⟨reg, imm, rfl, hr⟩ | rfl | rfl
  · rw [effect_setcfg_geometry hr]
    exact ⟨rfl, rfl⟩
  · exact ⟨rfl, rfl⟩
  · exact ⟨rfl, rfl⟩

/-! ### STATUS as a word, and the errors that show it -/

/-- The error entry of a statement is that of the model (R226). -/
theorem raises_of_raised {r : Result} {e : ErrorKind} {info0 info1 : Word}
    (h : r = .next (s.raised e info0 info1)) : Raises r s e.code info0 info1 := ⟨_, h, rfl⟩

/-- STATUS as read is the number R31 gives it, at the DUP bit it shows. -/
theorem statusWord_eq_statusValue (s : State) :
    s.statusWord = statusValue s.status (s.status.dup.getD (s.free.getLsbD 9)) := by
  have := Bool.toNat_le s.status.tv
  have := Bool.toNat_le s.status.ev
  have := Bool.toNat_le s.status.av
  have := Bool.toNat_le s.status.lv
  have := Bool.toNat_le s.status.pv
  have := Bool.toNat_le (s.status.dup.getD (s.free.getLsbD 9))
  have := s.status.err.isLt
  apply BitVec.eq_of_toNat_eq
  simp only [State.statusWord, Status.word, statusValue, toNat_append_eq_add, BitVec.toNat_ofBool,
    BitVec.toNat_ofNat]
  omega

theorem showsDup_getD (s : State) (b : Bool) : ShowsDup s (s.status.dup.getD b) := by
  intro c hc
  rw [hc]
  rfl

theorem showsStatus_statusWord (s : State) : ShowsStatus s s.statusWord := by
  intro dup hdup
  rw [statusWord_eq_statusValue, hdup]
  rfl

/-- TENC without TILE raises NotReady (R165). -/
theorem exec_tenc_notReady (hb : legalBpp (bppEff s)) (htv : s.status.tv = false) :
    exec .tenc s = .next (s.raised .notReady s.statusWord 0#32) :=
  (requireBpp_legal hb).trans (if_neg (by rw [htv]; exact Bool.false_ne_true))

/-- TSTORE without ETILE or without ADDR raises NotReady (R189). -/
theorem exec_tstore_notReady (hb : legalBpp (bppEff s))
    (h : s.status.ev = false ∨ s.status.av = false) :
    exec .tstore s = .next (s.raised .notReady s.statusWord 0#32) := by
  refine (requireBpp_legal hb).trans (if_neg fun ⟨hev, hav⟩ => ?_)
  rcases h with h | h
  · exact Bool.false_ne_true (h.symm.trans hev)
  · exact Bool.false_ne_true (h.symm.trans hav)

theorem raisesNotReady_of_raised {r : Result} (h : r = .next (s.raised .notReady s.statusWord 0#32)) :
    RaisesNotReady r s := ⟨_, showsStatus_statusWord s, raises_of_raised h⟩

/-- Settles O48, by the flags the effects clear and the tests TENC and TSTORE make. -/
theorem staleBuffersAreRefused : Obligations.StaleBuffersAreRefused := by
  intro i s t r h hr h0 hb
  obtain ⟨-, data, rfl⟩ := exec_succeeded h hr h0
  refine ⟨fun hi => ?_, ?_⟩
  · obtain ⟨htv, hev⟩ := effect_clears_tile_flags (s := s) hi
    exact ⟨raisesNotReady_of_raised (exec_tenc_notReady hb htv),
      raisesNotReady_of_raised (exec_tstore_notReady hb (.inl hev))⟩
  · rintro ⟨tx, ty, rfl⟩
    exact raisesNotReady_of_raised (exec_tstore_notReady hb (.inl rfl))

/-! ### The bitplane count -/

theorem bppEff_of_bpp (h : s.bpp.toNat ≠ 0) : bppEff s = s.bpp.toNat :=
  if_pos fun h0 => h (congrArg BitVec.toNat h0)

theorem bppEff_of_srcdepth (h : s.bpp.toNat = 0) : bppEff s = max s.srcdepth.toNat 2 :=
  if_neg (not_not.mpr (BitVec.eq_of_toNat_eq h))

/-- Settles O15: R33's definition, and the test the six commands make first. -/
theorem bitplaneCountIsChecked : Obligations.BitplaneCountIsChecked := by
  refine fun s => ⟨bppEff_of_bpp, bppEff_of_srcdepth, fun h => ?_, fun hb => ?_⟩
  · rw [bppEff_of_srcdepth h]
    unfold legalBpp
    omega
  · have hbad (k : Result) : RaisesBadBpp (requireBpp s k) s := raises_of_raised (requireBpp_illegal hb)
    rintro i (rfl | ⟨tx, ty, rfl⟩ | rfl | rfl | rfl | rfl) <;> exact hbad _

/-! ### The resets -/

/-- Opcode 4 with a nonzero field is no command (R95, R97). -/
theorem decode_reset_nonzero {w : Word} (hop : w.toNat / 2 ^ 28 = 4) (hz : w.toNat % 2 ^ 28 ≠ 0) :
    decode w = .error .nonzeroField := by
  unfold decode
  rw [opField_toNat, hop]
  refine if_neg fun h0 => hz ?_
  rw [← zField_toNat, h0]
  rfl

/-- Settles O20: both resets are State.reset in all that R251 does not keep. -/
theorem bothResetsApplyTheResetValues : Obligations.BothResetsApplyTheResetValues := by
  refine ⟨by decide, fun s => ⟨?_, fun w hh hop hz => ?_, fun rest hp => ?_⟩⟩
  · refine ⟨s.softReset.respond 0#4 0#32, rfl, execute_runs (i := .reset) rfl (.inr rfl),
      fun k hk => ?_, rfl, rfl, rfl⟩
    interval_cases k <;> rfl
  · exact raises_of_raised (execute_illegal (decode_reset_nonzero hop hz) hh)
  · refine ⟨State.powerOnReset { s with port := rest }, step_event hp, fun k hk => ?_, rfl, rfl, rfl⟩
    interval_cases k <;> rfl

/-! ### CVTPAL in the terms of R143 -/

theorem padSize_eq (s : State) : padSize s = s.padctl.toNat % 65536 := BitVec.toNat_setWidth 16 s.padctl

theorem paletteLength_eq_outLength (s : State) : paletteLength s = outLength s := by
  unfold paletteLength outLength padEnabled
  rw [padSize_eq]

/-- Where it neither overflows nor exceeds PAL, CVTPAL succeeds (R143). -/
theorem exec_cvtpal_converted (ho : ¬ Overflows s) (hfit : outLength s ≤ s.params.palEntries)
    (h : exec .cvtpal s = .next t) : t = s.converted := by
  rw [← paletteLength_eq_outLength] at hfit
  rcases execCvtpal_cases h with ⟨hover, -⟩ | ⟨-, hcap, -⟩ | ⟨-, -, h⟩
  · rw [padSize_eq] at hover
    exact absurd hover ho
  · omega
  · exact h

/-- A source entry that holds no value leaves the scan without a result (R143). -/
theorem dupscan_of_missing {dup0 : BitVec 1} {n i : Nat} (hi : i < n) (h : s.col.read i = none) :
    dupscan dup0 (sourceEntries n s) = none := by
  refine if_neg fun hall => ?_
  have hmem : (none : Option HwColour) ∈ sourceEntries n s :=
    List.mem_map.mpr ⟨i, List.mem_range.mpr hi, by rw [h]; rfl⟩
  exact Bool.false_ne_true (List.all_eq_true.mp hall none hmem)

/-- Settles O27: the scan has no result, so CVTPAL leaves none. -/
theorem unwrittenColoursVoidTheScan : Obligations.UnwrittenColoursVoidTheScan := by
  rintro s t ho hfit h ⟨i, hi, hcol⟩
  rw [exec_cvtpal_converted ho hfit h, State.converted, dupscan_of_missing hi hcol]
  exact ⟨rfl, rfl, rfl⟩

theorem outLength_lt (s : State) : outLength s < 65536 := by
  have := s.ncol.isLt
  unfold outLength
  split <;> omega

/-- CVTPAL's response as a number: the length, and the duplicate bit at weight 65536 (R143). -/
theorem paletteData_eq (s : State) (scan : Option (BitVec 16 × BitVec 16)) :
    paletteData s scan = BitVec.ofNat 32 (outLength s + 65536 * (duplicateBit scan s.free).toNat) := by
  have hlen := outLength_lt s
  unfold paletteData
  rw [paletteLength_eq_outLength]
  cases duplicateBit scan s.free with
  | false => exact BitVec.or_zero
  | true =>
    have hor : 65536 ||| outLength s = 65536 + outLength s :=
      (Nat.two_pow_add_eq_or_of_lt (i := 16) hlen 1).symm
    rw [if_pos rfl, toWord, ← BitVec.ofNat_or, Nat.lor_comm, hor, Nat.add_comm]
    rfl

/-- Settles O59: the bit shown is DUP, or a bit of the free value when DUP holds none. -/
theorem unknownDupFreesOneBit : Obligations.UnknownDupFreesOneBit := by
  refine ⟨fun s => ?_, fun s t ho hfit h => ?_⟩
  · refine ⟨s.status.dup.getD (s.free.getLsbD 9), showsDup_getD s _, ?_⟩
    rw [← statusWord_eq_statusValue]
    exact ⟨⟨_, rfl, rfl⟩, ⟨_, rfl, rfl⟩, fun hb htv => raises_of_raised (exec_tenc_notReady hb htv),
      fun hb hf => raises_of_raised (exec_tstore_notReady hb hf)⟩
  · have hdata := paletteData_eq s (dupscan s.dupctl (sourceEntries s.ncol.toNat s))
    rw [exec_cvtpal_converted ho hfit h]
    exact ⟨_, showsDup_getD s.converted (s.free.getLsbD 16),
      congrArg (fun data => some (Response.mk 0#4 data)) hdata⟩

/-! ### Different subtiles lie in different places -/

/-- A raster position determines its column and its row. -/
theorem raster_injective {w x y x' y' : Nat} (hx : x < w) (hx' : x' < w)
    (h : y * w + x = y' * w + x') : x = x' ∧ y = y' := by
  have row (x y : Nat) (hx : x < w) : (y * w + x) / w = y := by
    rw [Nat.add_comm, Nat.add_mul_div_right _ _ (Nat.zero_lt_of_lt hx), Nat.div_eq_of_lt hx, Nat.zero_add]
  have hy : y = y' := by rw [← row x y hx, h, row x' y' hx']
  subst hy
  exact ⟨Nat.add_left_cancel h, rfl⟩

/-- No two subtiles of the grid share a slot (R184). -/
theorem tileIndex_injective {tx ty tx' ty' : Nat} (hz : LegalTileSize s) (hg : geometryOk s)
    (h : inGrid tx ty s) (h' : inGrid tx' ty' s) (he : tileIndex tx ty s = tileIndex tx' ty' s) :
    tx = tx' ∧ ty = ty' := by
  rcases hz with hz | hz
  · rw [tileIndex_mode8 hz, tileIndex_mode8 hz] at he
    exact raster_injective h.1 h'.1 he
  · have h8 : ¬ mode8 s := by unfold mode8; rw [hz]; decide
    obtain ⟨hx, -⟩ := metatile_in_grid hz hg h
    obtain ⟨hx', -⟩ := metatile_in_grid hz hg h'
    rw [tileIndex_mode16 h8, tileIndex_mode16 h8] at he
    unfold index16 metatileBase at he
    have hm : metatileNumber tx ty s = metatileNumber tx' ty' s := by omega
    obtain ⟨hcol, hrow⟩ := raster_injective hx hx' hm
    omega

/-- A byte of one subtile lies outside every other subtile's bytes. -/
theorem tileOffset_outside {tx ty tx' ty' off : Nat} (hoff : off < bpt s)
    (hne : tileIndex tx ty s ≠ tileIndex tx' ty' s) :
    tileOffset tx ty s + off < tileOffset tx' ty' s ∨
      tileOffset tx' ty' s + bpt s ≤ tileOffset tx ty s + off := by
  unfold tileOffset
  rcases Nat.lt_or_gt_of_ne hne with hlt | hlt
  · have := Nat.mul_le_mul_right (bpt s) (Nat.succ_le_of_lt hlt)
    rw [Nat.succ_mul] at this
    omega
  · have := Nat.mul_le_mul_right (bpt s) (Nat.succ_le_of_lt hlt)
    rw [Nat.succ_mul] at this
    omega

/-! ### What CVTIMG leaves in VRAM -/

/-- One turn of CVTIMG's tile loop: the bytes of subtile `p` go to its slot (R192). -/
abbrev storeSubtile (s : State) (vram : Memory 8) (p : Nat × Nat) : Memory 8 :=
  vram.writeRange (tileOffset p.1 p.2 s) (subtileBytes p.1 p.2 s)

/-- After the loop over a list of subtiles, the slot of one it has stored, or that held its bytes before,
holds its bytes: no other turn touches it. -/
theorem read_foldl_storeSubtile {tx ty off : Nat} (hz : LegalTileSize s) (hg : geometryOk s)
    (hin : inGrid tx ty s) (hoff : off < bpt s) (l : List (Nat × Nat)) (vram : Memory 8)
    (hl : ∀ p ∈ l, inGrid p.1 p.2 s)
    (h : (tx, ty) ∈ l ∨ vram.read (tileOffset tx ty s + off) = ((subtileBytes tx ty s)[off]?).join) :
    (l.foldl (storeSubtile s) vram).read (tileOffset tx ty s + off) =
      ((subtileBytes tx ty s)[off]?).join := by
  induction l generalizing vram with
  | nil => exact h.resolve_left List.not_mem_nil
  | cons q l ih =>
    obtain ⟨hq, hl⟩ := List.forall_mem_cons.mp hl
    refine ih _ hl ?_
    by_cases heq : (tx, ty) = q
    · subst heq
      refine .inr ?_
      have hlt := Nat.add_lt_add_left hoff (tileOffset tx ty s)
      rw [Memory.read_writeRange, if_pos ⟨Nat.le_add_right _ _, by rwa [subtileBytes_length]⟩,
        Nat.add_sub_cancel_left]
    · refine h.imp (fun hmem => (List.mem_cons.mp hmem).resolve_left heq) fun hread => ?_
      have hne : tileIndex tx ty s ≠ tileIndex q.1 q.2 s := fun he => by
        obtain ⟨hx, hy⟩ := tileIndex_injective hz hg hin hq he
        exact heq (Prod.ext hx hy)
      rw [Memory.read_writeRange_of_outside _ _ _ _
        (by rw [subtileBytes_length]; exact tileOffset_outside hoff hne)]
      exact hread

/-- After CVTIMG a subtile's slot holds the subtile's bytes (R192). -/
theorem read_imageVram {tx ty off : Nat} (hz : LegalTileSize s) (hg : geometryOk s)
    (hin : inGrid tx ty s) (hoff : off < bpt s) :
    (imageVram s).read (tileOffset tx ty s + off) = ((subtileBytes tx ty s)[off]?).join :=
  read_foldl_storeSubtile hz hg hin hoff (subtiles s) _ (fun p => (mem_subtiles s p).mp)
    (.inl ((mem_subtiles s (tx, ty)).mpr hin))

/-! ### Rows with a pixel that holds no value -/

/-- The byte of a row with a missing pixel is missing from the encoding (R46). -/
theorem encodeTile_of_missing {tile : Nat → Option Byte} {b p row k col : Nat} (hp : p < b / 2)
    (hr : row < 8) (hk : k < 2) (hc : col < 8) (h : tile (8 * row + col) = none) :
    ((encodeTile tile b)[16 * p + 2 * row + k]?).join = none := by
  rw [encodeTile_block tile b p row k hp hr hk, encodeByte_of_missing tile row _ col hc h]
  rfl

theorem exec_tenc_etile (hb : legalBpp (bppEff s)) (htv : s.status.tv = true)
    (h : exec .tenc s = .next t) :
    t.etile = Memory.writeRange [] 0 (encodeTile s.tile.read (bppEff s)) := by
  rcases execTenc_cases h with ⟨hnb, -⟩ | ⟨-, hnt, -⟩ | ⟨-, -, rfl⟩
  · exact absurd hb hnb
  · rw [htv] at hnt
    exact Bool.noConfusion hnt
  · rfl

theorem exec_cvtimg_vram (hb : legalBpp (bppEff s)) (hg : geometryOk s)
    (hpix : matrixCells s ≤ s.params.pixSize) (hfit : totalLen s ≤ s.params.vramSize)
    (h : exec .cvtimg s = .next t) : t.vram = imageVram s := by
  rcases execCvtimg_cases h with
    ⟨hnb, -⟩ | ⟨-, hng, -⟩ | ⟨-, -, hcap, -⟩ | ⟨-, -, -, hcap, -⟩ | ⟨-, -, -, -, rfl⟩
  · exact absurd hb hnb
  · exact absurd hg hng
  · omega
  · omega
  · rfl

/-- Settles O33: the encoder voids the row's bytes, TENC fills ETILE with them and CVTIMG the subtile's
slot. -/
theorem unwrittenPixelsVoidTheirRows : Obligations.UnwrittenPixelsVoidTheirRows := by
  constructor
  · rintro s t h hb htv p row k hp hr hk ⟨col, hc, hcol⟩
    rw [exec_tenc_etile hb htv h, read_filled_buffer]
    exact encodeTile_of_missing hp hr hk hc hcol
  · rintro s t h hz hb hg hpix hfit tx ty p row k hin hp hr hk ⟨col, hc, hcol⟩
    have hoff : 16 * p + 2 * row + k < bpt s := by unfold bpt; omega
    rw [exec_cvtimg_vram hb hg hpix hfit h, read_imageVram hz hg hin hoff]
    refine encodeTile_of_missing hp hr hk hc ?_
    rw [tileOf_extract tx ty row col hr hc, ← Nat.add_assoc]
    exact hcol

end Sys2Proof.Machine

namespace Sys2Proof.Machine

open Sys2Proof.Claims

variable {s t : State}

/-! ### A command word taken from the port -/

theorem runsWhileHalted_of_oneOfTheFour {i : Instr} (h : OneOfTheFour i) : runsWhileHalted i = true := by
  rcases h with rfl | ⟨reg, rfl⟩ | rfl | rfl <;> rfl

/-- Settles O11: the step takes the event, and the dispatch runs what it decodes to. -/
theorem stepRunsTheDecodedCommand : Obligations.StepRunsTheDecodedCommand := by
  intro s w rest i hp hd hrun
  rw [step_event hp]
  -- taking the event off the port does not touch ERR
  exact execute_runs (s := { s with port := rest }) hd (hrun.imp_right runsWhileHalted_of_oneOfTheFour)

/-! ### What the host port reads -/

theorem spaceCells_eq_cellCount (space : BitVec 4) (s : State) :
    spaceCells space s = cellCount s space.toNat := rfl

theorem spaceCells_of_no_space {space : BitVec 4} (h : 7 ≤ space.toNat) (s : State) :
    spaceCells space s = 0 := by
  obtain ⟨k, hk⟩ := Nat.exists_eq_add_of_le' h
  unfold spaceCells
  rw [hk]
  rfl

/-- The port reads a cell that holds a number as that number (R70). -/
theorem portValue_of_map_toNat {w v : Nat} {cell : Option (BitVec w)} (h : cell.map BitVec.toNat = some v)
    (free : Word) : portValue cell free = v := by
  obtain ⟨c, rfl, rfl⟩ := Option.map_eq_some_iff.mp h
  rfl

/-- The byte view as numbers: the low byte of a palette word at the even address, the high byte at the odd
one (R63). -/
theorem palByte_map_toNat (a : Nat) (s : State) :
    (palByte a s).map BitVec.toNat =
      (s.pal.read (a / 2)).map fun c => if a % 2 = 0 then c.toNat % 256 else c.toNat / 256 := by
  rw [palByte, Option.map_map]
  congr 1
  funext c
  have hc := c.isLt
  simp only [Function.comp_apply, BitVec.extractLsb'_toNat, Nat.shiftRight_eq_div_pow]
  rcases Nat.mod_two_eq_zero_or_one a with h | h
  · simp [h]
  · rw [h, if_neg Nat.one_ne_zero]
    omega

/-- A space reads as the number its cell holds (R60, R63, R70). -/
theorem spaceRead_of_cellValue {space : BitVec 4} {a v : Nat} (h : cellValue s space.toNat a = some v) :
    spaceRead space a s = v := by
  unfold spaceRead
  unfold cellValue at h
  split at h
  case h_1 hs | h_2 hs | h_3 hs | h_4 hs | h_5 hs | h_6 hs =>
    rw [hs]
    exact portValue_of_map_toNat h _
  case h_7 hs =>
    rw [hs]
    exact portValue_of_map_toNat ((palByte_map_toNat a s).trans h) _
  case h_8 => cases h

/-- A HostRead below the size of its space answers what the space reads (R70). -/
theorem hostRead_below {space : BitVec 4} {addr : Word} (ha : addr.toNat < cellCount s space.toNat) :
    hostRead space addr s = .next (s.reply (.read (spaceRead space addr.toNat s))) :=
  if_pos (by rwa [spaceCells_eq_cellCount])

/-- A HostRead of a cell that holds a number answers it (R70). -/
theorem hostRead_of_cellValue {space : BitVec 4} {addr : Word} {v : Nat}
    (ha : addr.toNat < cellCount s space.toNat) (hv : cellValue s space.toNat addr.toNat = some v) :
    hostRead space addr s = .next (s.reply (.read v)) := by
  rw [hostRead_below ha, spaceRead_of_cellValue hv]

/-- Settles O50: PALB is space 6, and its cells 2i and 2i + 1 are the two bytes of PAL[i]. -/
theorem paletteBytesAreLittleEndian : Obligations.PaletteBytesAreLittleEndian := by
  intro s i c addr hi hc
  have read (v : Nat) (ha : addr.toNat / 2 = i)
      (hv : (if addr.toNat % 2 = 0 then c.toNat % 256 else c.toNat / 256) = v) :
      ∃ t, hostRead 6#4 addr s = .next t ∧ t.answer = some (.read v) := by
    have hbelow : addr.toNat < 2 * s.params.palEntries := by omega
    refine ⟨_, hostRead_of_cellValue hbelow ?_, rfl⟩
    show (s.pal.read (addr.toNat / 2)).map _ = some v
    rw [ha, hc, Option.map_some, hv]
  exact ⟨fun ha => read _ (by omega) (if_pos (by omega)), fun ha => read _ (by omega) (if_neg (by omega))⟩

/-! ### What the host port writes -/

theorem hostWrite_pix {addr : Word} {value : Nat} (ha : addr.toNat < s.params.pixSize)
    (hv : value < 2 ^ 8) :
    hostWrite 0#4 addr value s =
      .next ({ s with pix := s.pix.write addr.toNat (BitVec.ofNat 8 value) }.reply .written) :=
  (if_pos ha).trans (if_pos hv)

theorem hostWrite_col {addr : Word} {value : Nat} (ha : addr.toNat < 256) (hv : value < 2 ^ 24) :
    hostWrite 1#4 addr value s =
      .next ({ s with col := s.col.write addr.toNat (BitVec.ofNat 24 value) }.reply .written) :=
  (if_pos ha).trans (if_pos hv)

/-- Settles O49: an accepted write is a write of one cell of PIX or COL, and a read is what the space reads. -/
theorem hostTransactionsMoveOneCell : Obligations.HostTransactionsMoveOneCell := by
  refine fun s addr rest => ⟨fun value ha hv hp => ?_, fun value ha hv hp => ?_, fun space ha hp => ?_⟩
  · exact ⟨_, (step_event hp).trans (hostWrite_pix ha hv), rfl, Memory.read_write _ _ _⟩
  · exact ⟨_, (step_event hp).trans (hostWrite_col ha hv), rfl, Memory.read_write _ _ _⟩
  · have hbelow : addr.toNat < cellCount s space.toNat := by
      rcases ha with ⟨hs, ha⟩ | ⟨hs, ha⟩ | ⟨hs, ha⟩ | ⟨hs, ha⟩ | ⟨hs, ha⟩ | ⟨hs, ha⟩ | ⟨hs, ha⟩ <;>
        rw [hs] <;> exact ha
    have reads {k v : Nat} (hs : space.toNat = k) (hv : cellValue s k addr.toNat = some v) :
        spaceRead space addr.toNat { s with port := rest } = v :=
      spaceRead_of_cellValue (s := { s with port := rest }) (by rw [hs]; exact hv)
    refine ⟨_, _, (step_event hp).trans (hostRead_below hbelow), rfl, ?_, ?_, ?_, ?_, ?_, ?_, ?_⟩ <;>
      exact fun hs c hc => reads hs (congrArg (Option.map _) hc)

/-! ### What the host port refuses -/

/-- A HostRead beyond the size of its space is refused; a space of 7 or above has size 0 (R71). -/
theorem hostRead_refused {space : BitVec 4} {addr : Word}
    (h : 7 ≤ space.toNat ∨ spaceCells space s ≤ addr.toNat) :
    hostRead space addr s = .next (s.reply .refused) := by
  refine if_neg fun ha => ?_
  rcases h with h | h
  · rw [spaceCells_of_no_space h] at ha
    omega
  · omega

/-- A HostWrite to a space other than PIX and COL, beyond the size, or of a value too wide is refused (R71). -/
theorem hostWrite_refused {space : BitVec 4} {addr : Word} {value : Nat}
    (h : 2 ≤ space.toNat ∨ spaceCells space s ≤ addr.toNat ∨ (space.toNat = 0 ∧ 2 ^ 8 ≤ value) ∨
      (space.toNat = 1 ∧ 2 ^ 24 ≤ value)) :
    hostWrite space addr value s = .next (s.reply .refused) := by
  obtain ⟨t, ht⟩ := hostWrite_answers space addr value s
  rcases hostWrite_cases ht with ⟨hs, ha, hv, -⟩ | ⟨hs, ha, hv, -⟩ | rfl
  · simp only [spaceCells, hs] at h
    omega
  · simp only [spaceCells, hs] at h
    omega
  · exact ht

/-- Settles O51: a refused transaction only replies. -/
theorem hostRefusalsChangeNothing : Obligations.HostRefusalsChangeNothing := by
  refine fun s space addr rest => ⟨fun h hp => ?_, fun value h hp => ?_⟩
  · exact ⟨_, (step_event hp).trans (hostRead_refused h), rfl⟩
  · exact ⟨_, (step_event hp).trans (hostWrite_refused h), rfl⟩

/-! ### Who changes a cell -/

/-- `t` holds what `s` holds in every memory and buffer. -/
def State.SameSpaces (s t : State) : Prop :=
  t.pix = s.pix ∧ t.col = s.col ∧ t.pal = s.pal ∧ t.vram = s.vram ∧ t.tile = s.tile ∧ t.etile = s.etile

/-- Neither the answer of a HostRead nor its refusal touches a space (R70, R71). -/
theorem hostRead_sameSpaces {space : BitVec 4} {addr : Word} (h : hostRead space addr s = .next t) :
    s.SameSpaces t := by
  rcases hostRead_cases h with ⟨-, rfl⟩ | ⟨-, rfl⟩ <;> exact ⟨rfl, rfl, rfl, rfl, rfl, rfl⟩

/-- A HostWrite changes no cell but the one it names, in PIX or COL (R70, R71). -/
theorem hostWrite_otherCells {space : BitVec 4} {addr : Word} {value : Nat}
    (h : hostWrite space addr value s = .next t) :
    t.pal = s.pal ∧ t.vram = s.vram ∧ t.tile = s.tile ∧ t.etile = s.etile ∧
      (∀ a, space.toNat ≠ 0 ∨ a ≠ addr.toNat → t.pix.read a = s.pix.read a) ∧
      ∀ a, space.toNat ≠ 1 ∨ a ≠ addr.toNat → t.col.read a = s.col.read a := by
  rcases hostWrite_cases h with ⟨hs, -, -, rfl⟩ | ⟨hs, -, -, rfl⟩ | rfl
  · exact ⟨rfl, rfl, rfl, rfl,
      fun a ha => (Memory.read_write _ _ _ a).trans (if_neg (ha.resolve_left (not_not.mpr hs))),
      fun _ _ => rfl⟩
  · exact ⟨rfl, rfl, rfl, rfl, fun _ _ => rfl,
      fun a ha => (Memory.read_write _ _ _ a).trans (if_neg (ha.resolve_left (not_not.mpr hs)))⟩
  · exact ⟨rfl, rfl, rfl, rfl, fun _ _ => rfl, fun _ _ => rfl⟩

theorem effect_sameSpaces {i : Instr} (hi : TouchesNoSpace i) : s.SameSpaces (s.effect i) := by
  by_cases hset : ∃ reg imm, i = .setcfg reg imm ∧ 4 < reg.toNat
  · obtain ⟨reg, imm, rfl, hr⟩ := hset
    rw [effect_setcfg_palette hr]
    exact ⟨rfl, rfl, rfl, rfl, rfl, rfl⟩
  · rcases hi with rfl | h | ⟨reg, rfl⟩ | rfl | ⟨r, g, b, rfl⟩ | ⟨tx, ty, rfl⟩ | rfl
    case inr.inl => exact absurd h hset
    all_goals exact ⟨rfl, rfl, rfl, rfl, rfl, rfl⟩

/-- The commands of R68 that touch no space, whether they succeed or raise an error. -/
theorem exec_sameSpaces {i : Instr} (hi : TouchesNoSpace i) (h : exec i s = .next t) : s.SameSpaces t := by
  rcases exec_outcome h with ⟨e, info0, info1, rfl⟩ | ⟨-, data, rfl⟩
  · exact ⟨rfl, rfl, rfl, rfl, rfl, rfl⟩
  · exact effect_sameSpaces (s := s) hi

/-- Settles O57, from what transactions and commands leave unchanged; the second read meets the cell the
first one met. -/
theorem spacesArePlainPrivateMemory : Obligations.SpacesArePlainPrivateMemory := by
  refine ⟨fun s t h hev => ?_, fun s t space addr value rest h hp => ?_,
    fun i s t h hi => exec_sameSpaces hi h, fun s space addr v ha hv => ?_⟩
  · rcases hev with hp | ⟨space, addr, rest, hp⟩
    · rw [step_idle hp] at h
      injection h with h
      subst h
      exact ⟨rfl, rfl, rfl, rfl, rfl, rfl⟩
    · rw [step_event hp] at h
      exact hostRead_sameSpaces (s := { s with port := rest }) h
  · rw [step_event hp] at h
    exact hostWrite_otherCells (s := { s with port := rest }) h
  · exact ⟨_, _, hostRead_of_cellValue ha hv,
      hostRead_of_cellValue (s := s.reply (.read v)) ha hv, rfl, rfl⟩

end Sys2Proof.Machine

namespace Sys2Proof.Machine

open Sys2Proof.Claims

variable {s t : State}

/-! ### Sequences of commands -/

theorem executeAll_append {xs : List Word} (ys : List Word) (h : executeAll xs s = .next t) :
    executeAll (xs ++ ys) s = executeAll ys t := by
  induction xs generalizing s with
  | nil => injection h with h; rw [h, List.nil_append]
  | cons w xs ih =>
    obtain ⟨u, hu⟩ := execute_answers w s
    simp only [List.cons_append, executeAll, hu] at h ⊢
    exact ih h

/-- A command presented to a block that is not halted runs, and the sequence goes on (R22, R120). -/
theorem executeAll_encode_cons {i : Instr} (is : List Instr) (hd : decode (encode i) = .ok i)
    (hh : ¬ s.halted) (h : exec i s = .next t) :
    executeAll ((i :: is).map encode) s = executeAll (is.map encode) t := by
  have hi : execute (encode i) s = .next t := (execute_runs hd (.inl hh)).trans h
  simp only [List.map_cons, executeAll, hi]

theorem txField_encodeT (op : BitVec 4) (tx ty : BitVec 14) : txField (encodeT op tx ty) = tx := by
  have := tx.isLt
  apply BitVec.eq_of_toNat_eq
  rw [txField_toNat, encodeT_toNat]
  omega

theorem tyField_encodeT (op : BitVec 4) (tx ty : BitVec 14) : tyField (encodeT op tx ty) = ty := by
  have := tx.isLt
  have := ty.isLt
  apply BitVec.eq_of_toNat_eq
  rw [tyField_toNat, encodeT_toNat]
  omega

theorem decode_encode_tload (tx ty : BitVec 14) : decode (encode (.tload tx ty)) = .ok (.tload tx ty) := by
  have hop : (opField (encode (.tload tx ty))).toNat = 7 := Laws.OpcodeField.tload tx ty
  unfold decode
  rw [hop]
  show Except.ok _ = _
  rw [encode, txField_encodeT, tyField_encodeT]

theorem decode_encode_taddr (tx ty : BitVec 14) : decode (encode (.taddr tx ty)) = .ok (.taddr tx ty) := by
  have hop : (opField (encode (.taddr tx ty))).toNat = 9 := Laws.OpcodeField.taddr tx ty
  unfold decode
  rw [hop]
  show Except.ok _ = _
  rw [encode, txField_encodeT, tyField_encodeT]

/-! ### Bounds of the layout -/

/-- A subtile of the grid has coordinates of 12 bits (R27, R35). -/
theorem inGrid_lt {tx ty : Nat} (h : inGrid tx ty s) : tx < 4096 ∧ ty < 4096 := by
  have := s.width.isLt
  have := s.height.isLt
  obtain ⟨hx, hy⟩ := h
  unfold horizontalTiles verticalTiles at *
  omega

theorem totalSlots_le (s : State) : totalSlots s ≤ 16769025 := by
  have hw := s.width.isLt
  have hh := s.height.isLt
  unfold totalSlots horizontalTiles verticalTiles horizontalMetatiles verticalMetatiles ceil8
  split
  · have := Nat.mul_le_mul (show s.width.toNat / 8 ≤ 4095 by omega)
      (show s.height.toNat / 8 ≤ 4095 by omega)
    omega
  · have := Nat.mul_le_mul (show s.width.toNat / 16 ≤ 2047 by omega)
      (show s.height.toNat / 16 ≤ 2047 by omega)
    omega

/-- No image is longer than 2^30 bytes (R186). -/
theorem totalLen_lt (hb : legalBpp (bppEff s)) : totalLen s < 2 ^ 30 :=
  calc totalSlots s * bpt s ≤ 16769025 * 64 := Nat.mul_le_mul (totalSlots_le s) (bpt_le hb)
    _ < 2 ^ 30 := by decide

/-- With blocks that tile the image, a subtile of the grid is in bounds (R161, R188). -/
theorem inBounds_of_inGrid {tx ty : Nat} (hz : LegalTileSize s) (hg : geometryOk s)
    (h : inGrid tx ty s) : inBounds tx ty s := by
  obtain ⟨hw, hh⟩ := hg
  obtain ⟨hx, hy⟩ := h
  unfold horizontalTiles verticalTiles at *
  unfold inBounds
  rcases hz with hz | hz
  · have h8 : s.tilesz.toNat = 8 := by rw [hz]; rfl
    rw [h8] at hw hh ⊢
    omega
  · have h16 : s.tilesz.toNat = 16 := by rw [hz]; rfl
    rw [h16] at hw hh ⊢
    omega

/-! ### CVTTILE -/

/-- A buffer filled from its first cell, read cell by cell, gives the list it was filled with. -/
theorem map_read_filled_buffer {w : Nat} (vs : List (Option (BitVec w))) :
    (List.range vs.length).map (Memory.read (Memory.writeRange [] 0 vs)) = vs := by
  refine List.ext_getElem (by simp) fun i _ hi => ?_
  simp [read_filled_buffer, hi]

/-- What TILE holds after TLOAD of a subtile (R162). -/
def loadedTile (tx ty : Nat) (s : State) : Memory 8 := Memory.writeRange [] 0 (extract tx ty s)

/-- What ETILE holds after the TENC that follows (R165). -/
def encodedTile (tx ty : Nat) (s : State) : Memory 8 := Memory.writeRange [] 0 (subtileBytes tx ty s)

theorem encodeTile_loadedTile (tx ty : Nat) (s : State) :
    encodeTile (loadedTile tx ty s).read (bppEff s) = subtileBytes tx ty s :=
  congrArg (encodeTile · (bppEff s)) (funext fun i => read_filled_buffer _ i)

theorem map_read_encodedTile (tx ty : Nat) (s : State) :
    (List.range (bpt s)).map (encodedTile tx ty s).read = subtileBytes tx ty s := by
  have h := map_read_filled_buffer (subtileBytes tx ty s)
  rwa [subtileBytes_length] at h

/-- The block can convert every subtile of its image, whatever TILE, ETILE and ADDR hold: the tests the
commands of R100's CVTTILE make all pass. -/
structure State.ConvertsTiles (s : State) : Prop where
  running : ¬ s.halted
  tilesz : LegalTileSize s
  bpp : legalBpp (bppEff s)
  geometry : geometryOk s
  pix : matrixCells s ≤ s.params.pixSize
  vram : totalLen s ≤ s.params.vramSize

/-- That depends on ERR, on x[0..4] and on the sizes alone. -/
theorem State.ConvertsTiles.congr (h : s.ConvertsTiles) (herr : t.status.err = s.status.err)
    (hconfig : t.tileConfig = s.tileConfig) (hparams : t.params = s.params) : t.ConvertsTiles := by
  injection hconfig with hbpp hsrc htilesz hwidth hheight
  obtain ⟨hrun, hz, hb, hg, hpix, hvram⟩ := h
  refine ⟨?_, ?_, ?_, (geometryOk_congr htilesz hwidth hheight).mpr hg, ?_, ?_⟩
  · rwa [State.halted, herr]
  · rwa [LegalTileSize, htilesz]
  · rwa [bppEff_congr hbpp hsrc]
  · rwa [matrixCells, hwidth, hheight, hparams]
  · rwa [totalLen, totalSlots_congr htilesz hwidth hheight, bpt_congr hbpp hsrc, hparams]

theorem exec_tload_inBounds {tx ty : BitVec 14} (hin : inBounds tx.toNat ty.toNat s)
    (hpix : matrixCells s ≤ s.params.pixSize) :
    exec (.tload tx ty) s = .next ((s.setTile (loadedTile tx.toNat ty.toNat s)).respond 0#4 0#32) :=
  (if_pos hin).trans (requireCapacity_fits hpix)

theorem exec_tenc_loaded {cells : List (Option Byte)} (hb : legalBpp (bppEff s))
    (htv : s.status.tv = true) (hcells : encodeTile s.tile.read (bppEff s) = cells) :
    exec .tenc s =
      .next ((s.setEtile (Memory.writeRange [] 0 cells)).respond 0#4 (toWord (bpt s))) := by
  subst hcells
  exact (requireBpp_legal hb).trans (if_pos htv)

theorem exec_taddr_inGrid {tx ty : BitVec 14} (hb : legalBpp (bppEff s)) (hg : geometryOk s)
    (hin : inGrid tx.toNat ty.toNat s) :
    exec (.taddr tx ty) s =
      .next ((s.setAddr (toWord (tileOffset tx.toNat ty.toNat s))).respond 0#4
        (toWord (tileOffset tx.toNat ty.toNat s))) :=
  (requireBpp_legal hb).trans (if_pos ⟨hg, hin⟩)

theorem exec_tstore_ready {a : Word} {off : Nat} {cells : List (Option Byte)} (ha : s.addr = some a)
    (hoff : a.toNat = off) (hcells : encodedCells s = cells) (hb : legalBpp (bppEff s))
    (hev : s.status.ev = true) (hav : s.status.av = true) (hfit : off + bpt s ≤ s.params.vramSize) :
    exec .tstore s = .next ({ s with vram := s.vram.writeRange off cells }.respond 0#4 a) := by
  have hstore : storeAddress s = a := by rw [storeAddress, ha]; rfl
  subst hoff hcells hstore
  exact (requireBpp_legal hb).trans ((if_pos ⟨hev, hav⟩).trans (requireCapacity_fits hfit))

/-- The state after a TLOAD of a subtile and a TENC (R162, R165). -/
def State.tileEncoded (tx ty : BitVec 14) (s : State) : State :=
  { s with
    tile := loadedTile tx.toNat ty.toNat s, etile := encodedTile tx.toNat ty.toNat s
    status := { s.status with tv := true, ev := true }
    response := some { status := 0#4, data := toWord (bpt s) }, draws := s.draws + 2 }

/-- The state after a TADDR of a subtile and a TSTORE (R188, R189). -/
def State.tileStored (tx ty : BitVec 14) (s : State) : State :=
  { s with
    vram := s.vram.writeRange (tileOffset tx.toNat ty.toNat s) (encodedCells s)
    addr := some (toWord (tileOffset tx.toNat ty.toNat s))
    status := { s.status with av := true }
    response := some { status := 0#4, data := toWord (tileOffset tx.toNat ty.toNat s) }
    draws := s.draws + 2 }

theorem executeAll_tload_tenc {tx ty : BitVec 14} (hs : s.ConvertsTiles)
    (hin : inGrid tx.toNat ty.toNat s) :
    executeAll ([.tload tx ty, .tenc].map encode) s = .next (s.tileEncoded tx ty) := by
  refine (executeAll_encode_cons _ (decode_encode_tload tx ty) hs.running
    (exec_tload_inBounds (inBounds_of_inGrid hs.tilesz hs.geometry hin) hs.pix)).trans ?_
  exact executeAll_encode_cons [] rfl hs.running
    (exec_tenc_loaded hs.bpp rfl (encodeTile_loadedTile tx.toNat ty.toNat s))

theorem toNat_toWord_tileOffset {tx ty : Nat} (hs : s.ConvertsTiles) (hin : inGrid tx ty s) :
    (toWord (tileOffset tx ty s)).toNat = tileOffset tx ty s := by
  have := tileOffset_add_bpt_le_totalLen hs.tilesz hs.geometry hin
  have := totalLen_lt hs.bpp
  rw [toWord, BitVec.toNat_ofNat]
  omega

theorem executeAll_taddr_tstore {tx ty : BitVec 14} (hs : s.ConvertsTiles)
    (hin : inGrid tx.toNat ty.toNat s) (hev : s.status.ev = true) :
    executeAll ([.taddr tx ty, .tstore].map encode) s = .next (s.tileStored tx ty) := by
  have hfit := (tileOffset_add_bpt_le_totalLen hs.tilesz hs.geometry hin).trans hs.vram
  refine (executeAll_encode_cons _ (decode_encode_taddr tx ty) hs.running
    (exec_taddr_inGrid hs.bpp hs.geometry hin)).trans ?_
  exact executeAll_encode_cons [] rfl hs.running
    (exec_tstore_ready rfl (toNat_toWord_tileOffset hs hin) rfl hs.bpp hev rfl hfit)

/-- The state a CVTTILE leaves that raises no error (R193). -/
abbrev State.tileConverted (tx ty : BitVec 14) (s : State) : State :=
  (s.tileEncoded tx ty).tileStored tx ty

theorem tileConverted_convertsTiles (tx ty : BitVec 14) (hs : s.ConvertsTiles) :
    (s.tileConverted tx ty).ConvertsTiles := hs.congr rfl rfl rfl

/-- CVTTILE of a subtile of the grid runs without an error (R100, R193). -/
theorem executeAll_cvttile {tx ty : BitVec 14} (hs : s.ConvertsTiles)
    (hin : inGrid tx.toNat ty.toNat s) :
    executeAll ((cvttile tx ty).map encode) s = .next (s.tileConverted tx ty) :=
  (executeAll_append _ (executeAll_tload_tenc hs hin)).trans
    (executeAll_taddr_tstore (s := s.tileEncoded tx ty) (hs.congr rfl rfl rfl) hin rfl)

/-- CVTTILE does to VRAM what one turn of CVTIMG's tile loop does (R192, R193). -/
theorem tileConverted_vram (tx ty : BitVec 14) (s : State) :
    (s.tileConverted tx ty).vram = storeSubtile s s.vram (tx.toNat, ty.toNat) :=
  congrArg (s.vram.writeRange _) (map_read_encodedTile tx.toNat ty.toNat s)

/-! ### The subtiles in any order -/

/-- CVTTILE of each subtile of a list leaves VRAM as CVTIMG's tile loop over the list does, and VLEN as it
was. -/
theorem executeAll_cvttiles (l : List (Nat × Nat)) (hs : s.ConvertsTiles)
    (hl : ∀ p ∈ l, inGrid p.1 p.2 s) :
    ∃ u, executeAll
        ((l.flatMap fun p => cvttile (BitVec.ofNat 14 p.1) (BitVec.ofNat 14 p.2)).map encode) s = .next u ∧
      u.vram = l.foldl (storeSubtile s) s.vram ∧ u.vlen = s.vlen ∧ ¬ u.halted := by
  induction l generalizing s with
  | nil => exact ⟨s, rfl, rfl, rfl, hs.running⟩
  | cons p l ih =>
    obtain ⟨hp, hl⟩ := List.forall_mem_cons.mp hl
    obtain ⟨hx, hy⟩ := inGrid_lt hp
    have htx : (BitVec.ofNat 14 p.1).toNat = p.1 := by rw [BitVec.toNat_ofNat]; omega
    have hty : (BitVec.ofNat 14 p.2).toNat = p.2 := by rw [BitVec.toNat_ofNat]; omega
    have hfirst := executeAll_cvttile (tx := BitVec.ofNat 14 p.1) (ty := BitVec.ofNat 14 p.2) hs
      (by rwa [htx, hty])
    -- CVTTILE changes neither the configuration nor PIX, on which the loop's turns depend
    obtain ⟨u, hu, hvram, hvlen, hrun⟩ := ih (tileConverted_convertsTiles _ _ hs) hl
    refine ⟨u, ?_, ?_, hvlen, hrun⟩
    · rw [List.flatMap_cons, List.map_append, executeAll_append _ hfirst, hu]
    · rw [hvram, tileConverted_vram, htx, hty]
      rfl

theorem wf_foldl_storeSubtile (l : List (Nat × Nat)) {vram : Memory 8} (h : vram.wf) :
    (l.foldl (storeSubtile s) vram).wf :=
  List.foldlRecOn (motive := Memory.wf) l _ h fun _ hm _ _ => Memory.wf_writeRange _ _ _ hm

/-- The loop changes no byte outside the slots of its subtiles. -/
theorem read_foldl_storeSubtile_outside {a : Nat} (l : List (Nat × Nat)) (vram : Memory 8)
    (h : ∀ p ∈ l, a < tileOffset p.1 p.2 s ∨ tileOffset p.1 p.2 s + bpt s ≤ a) :
    (l.foldl (storeSubtile s) vram).read a = vram.read a := by
  refine List.foldlRecOn (motive := fun m => Memory.read m a = vram.read a) l _ rfl fun m hm p hp => ?_
  rw [Memory.read_writeRange_of_outside _ _ _ _ (by rw [subtileBytes_length]; exact h p hp), hm]

/-- The order of the subtiles cannot be observed: each slot is written by its own subtile only (R75, R184). -/
theorem foldl_storeSubtile_order {l l' : List (Nat × Nat)} {vram : Memory 8} (hz : LegalTileSize s)
    (hg : geometryOk s) (hwf : vram.wf) (hl : ∀ p, p ∈ l ↔ inGrid p.1 p.2 s)
    (hl' : ∀ p, p ∈ l' ↔ inGrid p.1 p.2 s) :
    l.foldl (storeSubtile s) vram = l'.foldl (storeSubtile s) vram := by
  refine Memory.ext_read _ _ (wf_foldl_storeSubtile l hwf) (wf_foldl_storeSubtile l' hwf) fun a => ?_
  by_cases hslot : ∃ tx ty off, inGrid tx ty s ∧ off < bpt s ∧ a = tileOffset tx ty s + off
  · obtain ⟨tx, ty, off, hin, hoff, rfl⟩ := hslot
    rw [read_foldl_storeSubtile hz hg hin hoff l _ (fun p => (hl p).mp) (.inl ((hl (tx, ty)).mpr hin)),
      read_foldl_storeSubtile hz hg hin hoff l' _ (fun p => (hl' p).mp) (.inl ((hl' (tx, ty)).mpr hin))]
  · have houtside (p : Nat × Nat) (hp : inGrid p.1 p.2 s) :
        a < tileOffset p.1 p.2 s ∨ tileOffset p.1 p.2 s + bpt s ≤ a := by
      by_contra hcon
      exact hslot ⟨p.1, p.2, a - tileOffset p.1 p.2 s, hp, by omega, by omega⟩
    rw [read_foldl_storeSubtile_outside l _ (fun p hp => houtside p ((hl p).mp hp)),
      read_foldl_storeSubtile_outside l' _ (fun p hp => houtside p ((hl' p).mp hp))]

theorem exec_vclr_fits (hb : legalBpp (bppEff s)) (hg : geometryOk s)
    (hfit : totalLen s ≤ s.params.vramSize) :
    exec .vclr s =
      .next (({ s with vram := clearedVram s }.setVlen (toWord (totalLen s))).respond 0#4
        (toWord (totalLen s))) :=
  (requireBpp_legal hb).trans ((requireGeometry_ok hg).trans (requireCapacity_fits hfit))

theorem exec_cvtimg_fits (hb : legalBpp (bppEff s)) (hg : geometryOk s)
    (hpix : matrixCells s ≤ s.params.pixSize) (hfit : totalLen s ≤ s.params.vramSize) :
    exec .cvtimg s = .next s.imaged :=
  (requireBpp_legal hb).trans ((requireGeometry_ok hg).trans
    ((requireCapacity_fits hpix).trans (requireCapacity_fits hfit)))

/-- Settles O47: both clear VRAM and store every subtile, in two orders that cannot be told apart. -/
theorem cvtimgEqualsTileByTile : Obligations.CvtimgEqualsTileByTile := by
  intro s order hrun hwf hz hb hg hpix hfit hlists
  obtain ⟨horder, -⟩ := hlists
  have hclear := exec_vclr_fits hb hg hfit
  obtain ⟨u, hu, hvram, hvlen, hend⟩ :=
    executeAll_cvttiles (s := (State.setVlen { s with vram := clearedVram s } (toWord (totalLen s))).respond
      0#4 (toWord (totalLen s))) order ⟨hrun, hz, hb, hg, hpix, hfit⟩ fun p => (horder p).mp
  refine ⟨s.imaged, u, exec_cvtimg_fits hb hg hpix hfit,
    (executeAll_encode_cons _ rfl hrun hclear).trans hu, hvram.trans ?_, hvlen, hend⟩
  exact foldl_storeSubtile_order hz hg (Memory.wf_writeRange _ _ _ hwf) horder (mem_subtiles s)

end Sys2Proof.Machine

namespace Sys2Proof.Machine

open Sys2Proof.Claims

variable {s t : State}

/-! ### The encoder against the decoder -/

/-- The opcode of a command's word is the command's opcode (R91, R95). -/
theorem opField_encode (i : Instr) : (opField (encode i)).toNat = opcodeOf i := by
  cases i with
  | setcfg reg imm => exact Laws.OpcodeField.setcfg reg imm
  | rdreg reg => exact Laws.OpcodeField.rdreg reg
  | cvtcol r g b => exact Laws.OpcodeField.cvtcol r g b
  | tload tx ty => exact Laws.OpcodeField.tload tx ty
  | taddr tx ty => exact Laws.OpcodeField.taddr tx ty
  | _ => rfl

theorem fields_encode_setcfg (reg : BitVec 4) (imm : BitVec 24) :
    regField (encode (.setcfg reg imm)) = reg ∧ immField (encode (.setcfg reg imm)) = imm := by
  have := reg.isLt
  have := imm.isLt
  refine ⟨BitVec.eq_of_toNat_eq ?_, BitVec.eq_of_toNat_eq ?_⟩
  · rw [regField_toNat, encode_setcfg_toNat]
    omega
  · rw [immField_toNat, encode_setcfg_toNat]
    omega

theorem fields_encode_rdreg (reg : BitVec 4) :
    regField (encode (.rdreg reg)) = reg ∧ immField (encode (.rdreg reg)) = 0#24 := by
  have := reg.isLt
  refine ⟨BitVec.eq_of_toNat_eq ?_, BitVec.eq_of_toNat_eq ?_⟩
  · rw [regField_toNat, encode_rdreg_toNat]
    omega
  · rw [immField_toNat, encode_rdreg_toNat, BitVec.toNat_ofNat]
    omega

theorem fields_encode_cvtcol (r g b : Byte) :
    regField (encode (.cvtcol r g b)) = 0#4 ∧ redField (encode (.cvtcol r g b)) = r ∧
      greenField (encode (.cvtcol r g b)) = g ∧ blueField (encode (.cvtcol r g b)) = b := by
  have := r.isLt
  have := g.isLt
  have := b.isLt
  refine ⟨BitVec.eq_of_toNat_eq ?_, BitVec.eq_of_toNat_eq ?_, BitVec.eq_of_toNat_eq ?_,
    BitVec.eq_of_toNat_eq ?_⟩
  · rw [regField_toNat, encode_cvtcol_toNat, BitVec.toNat_ofNat]
    omega
  · rw [redField_toNat, encode_cvtcol_toNat]
    omega
  · rw [greenField_toNat, encode_cvtcol_toNat]
    omega
  · rw [blueField_toNat, encode_cvtcol_toNat]
    omega

/-- A SETCFG of a writable register is a legal format-RI word (R92, R97). -/
theorem decode_encode_setcfg {reg : BitVec 4} (hw : Instr.writableReg reg = true) (imm : BitVec 24) :
    decode (encode (.setcfg reg imm)) = .ok (.setcfg reg imm) := by
  obtain ⟨hreg, himm⟩ := fields_encode_setcfg reg imm
  unfold decode
  rw [opField_encode]
  show decodeRI _ = _
  rw [decodeRI, hreg, himm, if_pos hw]

theorem decode_encode_rdreg (reg : BitVec 4) : decode (encode (.rdreg reg)) = .ok (.rdreg reg) := by
  obtain ⟨hreg, himm⟩ := fields_encode_rdreg reg
  unfold decode
  rw [opField_encode]
  show decodeR _ = _
  rw [decodeR, hreg, himm, if_pos rfl]

theorem decode_encode_cvtcol (r g b : Byte) :
    decode (encode (.cvtcol r g b)) = .ok (.cvtcol r g b) := by
  obtain ⟨hreg, hred, hgreen, hblue⟩ := fields_encode_cvtcol r g b
  unfold decode
  rw [opField_encode]
  show decodeC _ = _
  rw [decodeC, hreg, hred, hgreen, hblue, if_pos rfl]

/-- Settles O1: the five commands with operands field by field; the words of the others are fixed. -/
theorem decodeInvertsEncode : Obligations.DecodeInvertsEncode := by
  intro i hi
  cases i with
  | setcfg reg imm => exact decode_encode_setcfg hi imm
  | rdreg reg => exact decode_encode_rdreg reg
  | cvtcol r g b => exact decode_encode_cvtcol r g b
  | tload tx ty => exact decode_encode_tload tx ty
  | taddr tx ty => exact decode_encode_taddr tx ty
  | _ => rfl

/-- Settles O3: each of the words is the encoding of its command. -/
theorem decodesWrittenWords : Obligations.DecodesWrittenWords :=
  ⟨decodeInvertsEncode .nop rfl, decodeInvertsEncode (.setcfg 3#4 16#24) rfl,
    decodeInvertsEncode (.rdreg 8#4) rfl, decodeInvertsEncode (.cvtcol 0x12#8 0x34#8 0x56#8) rfl,
    decodeInvertsEncode (.tload 1#14 2#14) rfl, decodeInvertsEncode (.taddr 17#14 1#14) rfl,
    decodeInvertsEncode .cvtimg rfl⟩

/-! ### The decoder against the encoder -/

/-- What a format's one test lets through (R92, R97). -/
theorem ite_ok_iff {p : Prop} [Decidable p] {i j : Instr} {e : DecodeError} :
    (if p then Except.ok i else .error e) = .ok j ↔ p ∧ j = i := by
  by_cases hp : p <;> simp [hp, eq_comm]

/-- A format-Z word is made of its opcode (R92). -/
theorem encodeZ_of_fields {w : Word} {op : BitVec 4} (hop : (opField w).toNat = op.toNat)
    (hz : zField w = 0#28) : encodeZ op = w := by
  have hz := congrArg BitVec.toNat hz
  rw [zField_toNat, BitVec.toNat_ofNat] at hz
  rw [opField_toNat] at hop
  apply BitVec.eq_of_toNat_eq
  rw [encodeZ_toNat]
  omega

/-- A format-T word is made of its opcode and its two coordinates (R92). -/
theorem encodeT_of_fields {w : Word} {op : BitVec 4} (hop : (opField w).toNat = op.toNat) :
    encodeT op (txField w) (tyField w) = w := by
  rw [opField_toNat] at hop
  apply BitVec.eq_of_toNat_eq
  rw [encodeT_toNat, txField_toNat, tyField_toNat]
  omega

theorem encode_setcfg_of_fields {w : Word} (hop : (opField w).toNat = 1) :
    encode (.setcfg (regField w) (immField w)) = w := by
  rw [opField_toNat] at hop
  apply BitVec.eq_of_toNat_eq
  rw [encode_setcfg_toNat, regField_toNat, immField_toNat]
  omega

theorem encode_rdreg_of_fields {w : Word} (hop : (opField w).toNat = 2) (hz : immField w = 0#24) :
    encode (.rdreg (regField w)) = w := by
  have hz := congrArg BitVec.toNat hz
  rw [immField_toNat, BitVec.toNat_ofNat] at hz
  rw [opField_toNat] at hop
  apply BitVec.eq_of_toNat_eq
  rw [encode_rdreg_toNat, regField_toNat]
  omega

theorem encode_cvtcol_of_fields {w : Word} (hop : (opField w).toNat = 5) (hz : regField w = 0#4) :
    encode (.cvtcol (redField w) (greenField w) (blueField w)) = w := by
  have hz := congrArg BitVec.toNat hz
  rw [regField_toNat, BitVec.toNat_ofNat] at hz
  rw [opField_toNat] at hop
  apply BitVec.eq_of_toNat_eq
  rw [encode_cvtcol_toNat, redField_toNat, greenField_toNat, blueField_toNat]
  omega

/-- A format-Z word that decodes is the encoding of the command of its opcode. -/
theorem decodeZ_inverts {w : Word} {i j : Instr} (h : decodeZ w i = .ok j)
    (hop : (opField w).toNat = opcodeOf i) (hi : i.wellFormed = true)
    (henc : encode i = encodeZ (BitVec.ofNat 4 (opcodeOf i))) :
    j.wellFormed = true ∧ encode j = w := by
  obtain ⟨hz, rfl⟩ := ite_ok_iff.mp h
  refine ⟨hi, henc.trans (encodeZ_of_fields ?_ hz)⟩
  rw [← hop, BitVec.ofNat_toNat, BitVec.setWidth_eq]

/-- Settles O2, by the opcode and, in each format, the fields the decoder tests. -/
theorem encodeInvertsDecode : Obligations.EncodeInvertsDecode := by
  intro w i h
  unfold decode at h
  split at h
  case h_1 hop | h_4 hop | h_5 hop | h_7 hop | h_9 hop | h_11 hop | h_12 hop | h_13 hop | h_14 hop =>
    exact decodeZ_inverts h hop rfl rfl
  case h_2 hop =>
    obtain ⟨hw, rfl⟩ := ite_ok_iff.mp h
    exact ⟨hw, encode_setcfg_of_fields hop⟩
  case h_3 hop =>
    obtain ⟨hz, rfl⟩ := ite_ok_iff.mp h
    exact ⟨rfl, encode_rdreg_of_fields hop hz⟩
  case h_6 hop =>
    obtain ⟨hz, rfl⟩ := ite_ok_iff.mp h
    exact ⟨rfl, encode_cvtcol_of_fields hop hz⟩
  case h_8 hop | h_10 hop =>
    injection h with h
    subst h
    exact ⟨rfl, encodeT_of_fields hop⟩
  case h_15 => cases h

/-- The opcode of a decoded command is the word's (R91, R102). -/
theorem opcodeOf_of_decode {w : Word} {i : Instr} (h : decode w = .ok i) :
    opcodeOf i = w.toNat / 2 ^ 28 := by
  obtain ⟨-, henc⟩ := encodeInvertsDecode w i h
  rw [← opField_encode, henc, opField_toNat]

/-! ### The legal words -/

section LegalWords

variable {w : Word}

/-- The opcodes whose words are of format Z (R95). -/
def FormatZ (k : Nat) : Prop :=
  k = 0 ∨ k = 3 ∨ k = 4 ∨ k = 6 ∨ k = 8 ∨ k = 10 ∨ k = 11 ∨ k = 12 ∨ k = 13

theorem illegalWord_iff_of_formatZ (hop : FormatZ (w.toNat / 2 ^ 28)) :
    IllegalWord w ↔ w.toNat % 2 ^ 28 ≠ 0 := by
  refine ⟨?_, fun hz => .inr (.inr (.inl ⟨hop, hz⟩))⟩
  unfold FormatZ at hop
  rintro (h | h | ⟨-, hz⟩ | ⟨h, -⟩ | ⟨h, -⟩ | ⟨h, -⟩)
  case inr.inr.inl => exact hz
  all_goals omega

theorem illegalWord_iff_of_setcfg (hop : w.toNat / 2 ^ 28 = 1) :
    IllegalWord w ↔ 8 ≤ w.toNat / 2 ^ 24 % 16 := by
  simp only [IllegalWord, hop]
  simp

theorem illegalWord_iff_of_rdreg (hop : w.toNat / 2 ^ 28 = 2) :
    IllegalWord w ↔ w.toNat % 2 ^ 24 ≠ 0 := by
  simp only [IllegalWord, hop]
  simp

theorem illegalWord_iff_of_cvtcol (hop : w.toNat / 2 ^ 28 = 5) :
    IllegalWord w ↔ w.toNat / 2 ^ 24 % 16 ≠ 0 := by
  simp only [IllegalWord, hop]
  simp

/-- Every word of format T is legal (R92). -/
theorem not_illegalWord_of_formatT (hop : w.toNat / 2 ^ 28 = 7 ∨ w.toNat / 2 ^ 28 = 9) :
    ¬ IllegalWord w := by
  simp only [IllegalWord]
  omega

theorem ite_accepts_iff {p : Prop} [Decidable p] {i : Instr} {e : DecodeError} :
    (∃ j, (if p then Except.ok i else .error e) = .ok j) ↔ p := by
  simp only [ite_ok_iff, exists_and_left, exists_eq, and_true]

theorem decodeZ_accepts {i : Instr} : (∃ j, decodeZ w i = .ok j) ↔ w.toNat % 2 ^ 28 = 0 := by
  rw [decodeZ, ite_accepts_iff, BitVec.toNat_eq, zField_toNat, BitVec.toNat_ofNat, Nat.zero_mod]

theorem decodeR_accepts : (∃ i, decodeR w = .ok i) ↔ w.toNat % 2 ^ 24 = 0 := by
  rw [decodeR, ite_accepts_iff, BitVec.toNat_eq, immField_toNat, BitVec.toNat_ofNat, Nat.zero_mod]

theorem decodeRI_accepts : (∃ i, decodeRI w = .ok i) ↔ w.toNat / 2 ^ 24 % 16 ≤ 7 := by
  rw [decodeRI, ite_accepts_iff, Instr.writableReg, decide_eq_true_iff, regField_toNat]

theorem decodeC_accepts : (∃ i, decodeC w = .ok i) ↔ w.toNat / 2 ^ 24 % 16 = 0 := by
  rw [decodeC, ite_accepts_iff, BitVec.toNat_eq, regField_toNat, BitVec.toNat_ofNat, Nat.zero_mod]

end LegalWords

/-- The words that decode are those R96 and R97 do not call illegal. -/
theorem decode_accepts_iff (w : Word) : (∃ i, decode w = .ok i) ↔ ¬ IllegalWord w := by
  unfold decode
  rw [opField_toNat]
  split
  case h_1 hop | h_4 hop | h_5 hop | h_7 hop | h_9 hop | h_11 hop | h_12 hop | h_13 hop | h_14 hop =>
    rw [decodeZ_accepts, illegalWord_iff_of_formatZ (by rw [hop]; unfold FormatZ; decide), not_not]
  case h_2 hop => rw [decodeRI_accepts, illegalWord_iff_of_setcfg hop, Nat.not_le, Nat.lt_succ_iff]
  case h_3 hop => rw [decodeR_accepts, illegalWord_iff_of_rdreg hop, not_not]
  case h_6 hop => rw [decodeC_accepts, illegalWord_iff_of_cvtcol hop, not_not]
  case h_8 hop => exact iff_of_true ⟨_, rfl⟩ (not_illegalWord_of_formatT (.inl hop))
  case h_10 hop => exact iff_of_true ⟨_, rfl⟩ (not_illegalWord_of_formatT (.inr hop))
  case h_15 =>
    have hreserved : w.toNat / 2 ^ 28 = 14 ∨ w.toNat / 2 ^ 28 = 15 := by
      have := w.isLt
      simp only [imp_false] at *
      omega
    exact iff_of_false (fun ⟨_, h⟩ => nomatch h)
      (not_not.mpr (hreserved.imp_right .inl))

/-- Settles O5: the dispatch of the legal and of the illegal words. -/
theorem illegalWordsRaise : Obligations.IllegalWordsRaise := by
  intro w s hrun
  refine ⟨fun hill => ?_, fun hlegal => ?_, .inr (.inl rfl), rfl⟩
  · cases hd : decode w with
    | ok i => exact absurd hill ((decode_accepts_iff w).mp ⟨i, hd⟩)
    | error e => exact raises_of_raised (execute_illegal hd hrun)
  · obtain ⟨i, hd⟩ := (decode_accepts_iff w).mpr hlegal
    exact ⟨i, hd, execute_runs hd (.inl hrun)⟩

/-! ### The rows of the opcode table -/

/-- Equal words are words with equal fields op, reg and imm24 (R91, R93). -/
theorem word_eq_iff_fields (v w : Word) :
    v = w ↔ opField v = opField w ∧ regField v = regField w ∧ immField v = immField w := by
  constructor
  · rintro rfl
    exact ⟨rfl, rfl, rfl⟩
  · simp only [BitVec.toNat_eq, opField_toNat, regField_toNat, immField_toNat]
    omega

theorem fields_and (v w : Word) :
    opField (v &&& w) = opField v &&& opField w ∧ regField (v &&& w) = regField v &&& regField w ∧
      immField (v &&& w) = immField v &&& immField w :=
  ⟨BitVec.extractLsb'_and, BitVec.extractLsb'_and, BitVec.extractLsb'_and⟩

/-- Every row fixes the whole opcode, and wants zero in what else its mask covers (R95). -/
theorem matches_row_iff (w : Word) {k : Nat} (hk : k < 14) :
    w &&& rowMask k = BitVec.ofNat 32 (k * 2 ^ 28) ↔
      w.toNat / 2 ^ 28 = k ∧ regField w &&& regField (rowMask k) = 0#4 ∧
        immField w &&& immField (rowMask k) = 0#24 := by
  obtain ⟨hop, hreg, himm⟩ := fields_and w (rowMask k)
  have hmask : opField (rowMask k) = BitVec.allOnes 4 := by interval_cases k <;> rfl
  have hrow : opField (BitVec.ofNat 32 (k * 2 ^ 28)) = BitVec.ofNat 4 k ∧
      regField (BitVec.ofNat 32 (k * 2 ^ 28)) = 0#4 ∧
      immField (BitVec.ofNat 32 (k * 2 ^ 28)) = 0#24 := by
    interval_cases k <;> exact ⟨rfl, rfl, rfl⟩
  obtain ⟨hrowOp, hrowReg, hrowImm⟩ := hrow
  have hnum : opField w = BitVec.ofNat 4 k ↔ w.toNat / 2 ^ 28 = k := by
    rw [BitVec.toNat_eq, opField_toNat, BitVec.toNat_ofNat]
    omega
  rw [word_eq_iff_fields, hop, hreg, himm, hmask, BitVec.and_allOnes, hrowOp, hrowReg, hrowImm, hnum]

/-- The mask of SETCFG covers bit 3 of `reg`: it is clear in x[0] to x[7] (R97). -/
theorem and_eight_eq_zero_iff : ∀ reg : BitVec 4, reg &&& 8#4 = 0#4 ↔ reg.toNat < 8 := by decide

/-- A word of opcode `k` has zeros under the row's mask exactly when it is legal (R95, R97). -/
theorem masked_fields_zero_iff {w : Word} {k : Nat} (hk : k < 14) (hop : w.toNat / 2 ^ 28 = k) :
    (regField w &&& regField (rowMask k) = 0#4 ∧ immField w &&& immField (rowMask k) = 0#24) ↔
      ¬ IllegalWord w := by
  have hr := regField_toNat w
  have hi := immField_toNat w
  unfold rowMask
  split_ifs with h1 h2 h5 ht
  · show regField w &&& 8#4 = 0#4 ∧ immField w &&& 0#24 = 0#24 ↔ _
    rw [and_eight_eq_zero_iff, BitVec.and_zero, hr, illegalWord_iff_of_setcfg (hop.trans h1), Nat.not_le]
    exact and_iff_left rfl
  · show regField w &&& 0#4 = 0#4 ∧ immField w &&& BitVec.allOnes 24 = 0#24 ↔ _
    rw [BitVec.and_zero, BitVec.and_allOnes, BitVec.toNat_eq (x := immField w), hi,
      illegalWord_iff_of_rdreg (hop.trans h2), not_not]
    exact and_iff_right rfl
  · show regField w &&& BitVec.allOnes 4 = 0#4 ∧ immField w &&& 0#24 = 0#24 ↔ _
    rw [BitVec.and_zero, BitVec.and_allOnes, BitVec.toNat_eq (x := regField w), hr,
      illegalWord_iff_of_cvtcol (hop.trans h5), not_not]
    exact and_iff_left rfl
  · show regField w &&& 0#4 = 0#4 ∧ immField w &&& 0#24 = 0#24 ↔ _
    rw [BitVec.and_zero, BitVec.and_zero]
    exact iff_of_true ⟨rfl, rfl⟩ (not_illegalWord_of_formatT (hop ▸ ht))
  · show regField w &&& BitVec.allOnes 4 = 0#4 ∧ immField w &&& BitVec.allOnes 24 = 0#24 ↔ _
    have hz : FormatZ (w.toNat / 2 ^ 28) := by unfold FormatZ; omega
    rw [BitVec.and_allOnes, BitVec.and_allOnes, BitVec.toNat_eq, BitVec.toNat_eq (x := immField w), hr, hi,
      illegalWord_iff_of_formatZ hz, not_not, BitVec.toNat_ofNat,
      BitVec.toNat_ofNat]
    omega

/-- Settles O4: both sides say that the word has opcode `k` and is legal. -/
theorem tableRowsMatchTheDecoder : Obligations.TableRowsMatchTheDecoder := by
  intro w k hk
  calc w &&& rowMask k = BitVec.ofNat 32 (k * 2 ^ 28)
      ↔ w.toNat / 2 ^ 28 = k ∧ ¬ IllegalWord w :=
        (matches_row_iff w hk).trans (and_congr_right (masked_fields_zero_iff hk))
    _ ↔ w.toNat / 2 ^ 28 = k ∧ ∃ i, decode w = .ok i := and_congr_right' (decode_accepts_iff w).symm
    _ ↔ ∃ i, decode w = .ok i ∧ opcodeOf i = k := by
        constructor
        · rintro ⟨hop, i, hd⟩
          exact ⟨i, hd, (opcodeOf_of_decode hd).trans hop⟩
        · rintro ⟨i, hd, hop⟩
          exact ⟨(opcodeOf_of_decode hd).symm.trans hop, i, hd⟩

/-! ### The response of a command -/

/-- The codes of the error kinds as numbers (R221). -/
theorem code_toNat (e : ErrorKind) :
    e.code.toNat = 1 ∨ e.code.toNat = 2 ∨ e.code.toNat = 4 ∨ e.code.toNat = 5 ∨ e.code.toNat = 6 ∨
      e.code.toNat = 7 := by
  cases e <;> decide

/-- Every command word is answered with status 0, with Halted, or with the code of an error (R94). -/
theorem execute_response {w : Word} (h : execute w s = .next t) :
    ∃ r, t.response = some r ∧
      (r.status = 0#4 ∨ r.status = 15#4 ∨ ∃ e : ErrorKind, r.status = e.code) := by
  rcases execute_cases h with ⟨i, -, -, h⟩ | ⟨-, -, rfl⟩ | ⟨-, -, rfl⟩
  · rcases exec_outcome h with ⟨e, info0, info1, rfl⟩ | ⟨-, data, rfl⟩
    · exact ⟨_, rfl, .inr (.inr ⟨e, rfl⟩)⟩
    · exact ⟨_, rfl, .inl rfl⟩
  · exact ⟨_, rfl, .inr (.inl rfl)⟩
  · exact ⟨_, rfl, .inr (.inr ⟨.illegalCommand, rfl⟩)⟩

/-! ### No command reads the response before it -/

/-- The state with another last response. -/
def State.withResponse (s : State) (old : Option Response) : State := { s with response := old }

theorem writeReg_withResponse (reg : BitVec 4) (imm : BitVec 24) (s : State) (old : Option Response) :
    writeReg reg imm (s.withResponse old) = (writeReg reg imm s).withResponse old := by
  unfold writeReg
  split <;> rfl

theorem settleFlags_withResponse (reg : BitVec 4) (s : State) (old : Option Response) :
    settleFlags reg (s.withResponse old) = (settleFlags reg s).withResponse old := by
  unfold settleFlags
  split <;> rfl

theorem execSetcfg_withResponse (reg : BitVec 4) (imm : BitVec 24) (s : State) (old : Option Response) :
    execSetcfg reg imm (s.withResponse old) = execSetcfg reg imm s := by
  unfold execSetcfg
  rw [writeReg_withResponse, settleFlags_withResponse]
  rfl

/-- A command overwrites the response before it without reading it (R94). -/
theorem exec_withResponse (i : Instr) (s : State) (old : Option Response) :
    exec i (s.withResponse old) = exec i s := by
  cases i with
  | setcfg reg imm => exact execSetcfg_withResponse reg imm s old
  | _ => rfl

theorem execute_withResponse (w : Word) (s : State) (old : Option Response) :
    execute w (s.withResponse old) = execute w s := by
  unfold execute
  cases decode w with
  | ok i =>
    exact congrArg (fun r => if s.halted ∧ runsWhileHalted i = false then answerHalted s else r)
      (exec_withResponse i s old)
  | error e => rfl

/-- Settles O10: the three ends of the dispatch respond, and none reads the last response. -/
theorem everyCommandResponds : Obligations.EveryCommandResponds := by
  intro w s
  refine ⟨?_, execute_withResponse w s⟩
  obtain ⟨t, ht⟩ := execute_answers w s
  obtain ⟨r, hr, hstatus⟩ := execute_response ht
  refine ⟨t, r, ht, hr, ?_⟩
  rcases hstatus with h | h | ⟨e, h⟩ <;> rw [h]
  · exact .inl rfl
  · decide
  · have := code_toNat e
    omega

/-! ### What CVTPAL writes -/

/-- The cells CVTPAL writes: the source entries, then zero words (R143, R144). -/
theorem paletteCells_getElem? (s : State) (a : Nat) (ha : a < outLength s) :
    ((paletteCells s)[a]?).join =
      if a < s.ncol.toNat then (s.col.read a).map hwcolorOfEntry else some 0#16 := by
  unfold paletteCells
  split
  next hn =>
    rw [List.getElem?_append_left (by rwa [sourceEntries_length])]
    simp [sourceEntries, hn]
  next hn =>
    rw [List.getElem?_append_right (by rw [sourceEntries_length]; omega), sourceEntries_length,
      paletteLength_eq_outLength, zeroCells_getElem? _ _ _ (by omega)]
    rfl

theorem ncol_le_outLength (h : ¬ Overflows s) : s.ncol.toNat ≤ outLength s := by
  unfold outLength
  split
  next hp => exact Nat.not_lt.mp fun hlt => h ⟨hp, hlt⟩
  next => exact Nat.le_refl _

theorem paletteCells_length_of_not_overflows (h : ¬ Overflows s) :
    (paletteCells s).length = outLength s := by
  rw [paletteCells_length (by rwa [padSize_eq]), paletteLength_eq_outLength]

/-- PAL after CVTPAL, cell by cell (R143, R144). -/
theorem read_converted_pal (ho : ¬ Overflows s) (a : Nat) :
    s.converted.pal.read a =
      if a < s.ncol.toNat then (s.col.read a).map hwcolorOfEntry
      else if a < outLength s then some 0#16 else s.pal.read a := by
  have hn := ncol_le_outLength ho
  have hread : s.converted.pal.read a =
      if a < outLength s then ((paletteCells s)[a]?).join else s.pal.read a := by
    show (s.pal.writeRange 0 (paletteCells s)).read a = _
    rw [Memory.read_writeRange, paletteCells_length_of_not_overflows ho]
    simp
  rw [hread]
  by_cases hlen : a < outLength s
  · rw [if_pos hlen, if_pos hlen, paletteCells_getElem? s a hlen]
  · rw [if_neg hlen, if_neg hlen, if_neg (by omega)]

/-- When DUP holds a value, bit 16 of the response shows it (R143). -/
theorem duplicateBit_of_dup {scan : Option (BitVec 16 × BitVec 16)} {dup : Bool}
    (h : (scan.map fun p => decide (p.1 ≠ 0#16)) = some dup) (free : Word) :
    duplicateBit scan free = dup := by
  rw [duplicateBit, h]
  rfl

/-- Settles O25: the successful CVTPAL, its response as a number and PAL cell by cell. -/
theorem cvtpalWritesThePalette : Obligations.CvtpalWritesThePalette := by
  intro s ho hfit
  obtain ⟨t, ht⟩ := exec_answers .cvtpal s
  obtain rfl := exec_cvtpal_converted ho hfit ht
  refine ⟨_, paletteData s (dupscan s.dupctl (sourceEntries s.ncol.toNat s)), ht, fun dup hdup => ?_, ?_,
    read_converted_pal ho⟩
  · rw [paletteData_eq, duplicateBit_of_dup hdup]
  · rw [← paletteLength_eq_outLength]
    rfl

/-! ### The net effect of CVTTILE -/

/-- TLOAD and TENC of a subtile of the grid ask nothing of VRAM (R162, R165). -/
theorem executeAll_tload_tenc_of_inGrid {tx ty : BitVec 14} (hrun : ¬ s.halted) (hz : LegalTileSize s)
    (hb : legalBpp (bppEff s)) (hg : geometryOk s) (hin : inGrid tx.toNat ty.toNat s)
    (hpix : matrixCells s ≤ s.params.pixSize) :
    executeAll ([.tload tx ty, .tenc].map encode) s = .next (s.tileEncoded tx ty) := by
  refine (executeAll_encode_cons _ (decode_encode_tload tx ty) hrun
    (exec_tload_inBounds (inBounds_of_inGrid hz hg hin) hpix)).trans ?_
  exact executeAll_encode_cons [] rfl hrun
    (exec_tenc_loaded hb rfl (encodeTile_loadedTile tx.toNat ty.toNat s))

/-- A subtile's offset is a word (R186). -/
theorem toNat_toWord_tileOffset_of_inGrid {tx ty : Nat} (hz : LegalTileSize s)
    (hb : legalBpp (bppEff s)) (hg : geometryOk s) (hin : inGrid tx ty s) :
    (toWord (tileOffset tx ty s)).toNat = tileOffset tx ty s := by
  have := tileOffset_add_bpt_le_totalLen hz hg hin
  have := totalLen_lt hb
  rw [toWord, BitVec.toNat_ofNat]
  omega

/-- TADDR and TSTORE of an encoded subtile ask of VRAM that the subtile's own bytes fit (R188, R189). -/
theorem executeAll_taddr_tstore_of_fits {tx ty : BitVec 14} (hrun : ¬ s.halted) (hz : LegalTileSize s)
    (hb : legalBpp (bppEff s)) (hg : geometryOk s) (hin : inGrid tx.toNat ty.toNat s)
    (hev : s.status.ev = true) (hfit : tileOffset tx.toNat ty.toNat s + bpt s ≤ s.params.vramSize) :
    executeAll ([.taddr tx ty, .tstore].map encode) s = .next (s.tileStored tx ty) := by
  refine (executeAll_encode_cons _ (decode_encode_taddr tx ty) hrun (exec_taddr_inGrid hb hg hin)).trans ?_
  exact executeAll_encode_cons [] rfl hrun
    (exec_tstore_ready rfl (toNat_toWord_tileOffset_of_inGrid hz hb hg hin) rfl hb hev rfl hfit)

/-- Settles O46, from the state the four commands leave. -/
theorem cvttileHasItsNetEffect : Obligations.CvttileHasItsNetEffect := by
  intro s tx ty hrun hz hb hg hin hpix hfit
  have hencode := executeAll_tload_tenc_of_inGrid hrun hz hb hg hin hpix
  -- neither TLOAD nor TENC changes ERR, the configuration or the sizes
  have hstore := executeAll_taddr_tstore_of_fits (s := s.tileEncoded tx ty) hrun hz hb hg hin rfl hfit
  refine ⟨s.tileConverted tx ty, (executeAll_append _ hencode).trans hstore, rfl,
    read_filled_buffer _, fun i => ?_, fun a => ?_⟩
  · show (encodedTile tx.toNat ty.toNat s).read i =
      ((encodeTile (loadedTile tx.toNat ty.toNat s).read (bppEff s))[i]?).join
    rw [encodeTile_loadedTile]
    exact read_filled_buffer _ i
  · show _ = if _ then (encodedTile tx.toNat ty.toNat s).read _ else _
    rw [tileConverted_vram, Memory.read_writeRange, subtileBytes_length, encodedTile, read_filled_buffer]

end Sys2Proof.Machine

namespace Sys2Proof.Machine

open Sys2Proof.Claims

variable {s t : State}

/-! ### The dispatch, and the words it refuses -/

theorem answers_answerHalted (s : State) :
    Answers (answerHalted s) s 15#4 (BitVec.ofNat 32 s.status.err.toNat) := by
  rw [← setWidth_eq_ofNat]
  exact ⟨_, rfl, rfl⟩

theorem oneOfTheFour_of_runsWhileHalted {i : Instr} (h : runsWhileHalted i = true) : OneOfTheFour i := by
  cases i with
  | nop => exact .inl rfl
  | rdreg reg => exact .inr (.inl ⟨reg, rfl⟩)
  | clrst => exact .inr (.inr (.inl rfl))
  | reset => exact .inr (.inr (.inr rfl))
  | _ => exact absurd h Bool.false_ne_true

/-- While halted every word but the four commands' is answered Halted, the illegal ones too (R120). -/
theorem execute_halted_answers {w : Word} (hh : s.halted) (hw : ¬ RunsHalted w) :
    Answers (execute w s) s 15#4 (BitVec.ofNat 32 s.status.err.toNat) := by
  have hans : execute w s = answerHalted s := by
    cases hd : decode w with
    | ok i =>
      exact execute_halted_ok hd hh
        (eq_false_of_ne_true fun hi => hw ⟨i, hd, oneOfTheFour_of_runsWhileHalted hi⟩)
    | error e => exact execute_halted_error hd hh
  rw [hans]
  exact answers_answerHalted s

theorem execute_illegalWord_raises {w : Word} (hrun : ¬ s.halted) (hill : IllegalWord w) :
    Raises (execute w s) s 4#4 w 0#32 :=
  (illegalWordsRaise w s hrun).1 hill

/-- A format-Z word with one of its bits 27:0 set raises IllegalCommand (R92, R97). -/
theorem execute_formatZ_raises {w : Word} (hrun : ¬ s.halted) (hop : FormatZ (w.toNat / 2 ^ 28))
    (hz : w.toNat % 2 ^ 28 ≠ 0) : Raises (execute w s) s 4#4 w 0#32 :=
  execute_illegalWord_raises hrun ((illegalWord_iff_of_formatZ hop).mpr hz)

/-- Settles O6: the two tests of the dispatch, one after the other. -/
theorem dispatchTestsHaltFirst : Obligations.DispatchTestsHaltFirst := by
  refine fun w s => ⟨fun _ i hd hi => execute_runs hd (.inr (runsWhileHalted_of_oneOfTheFour hi)),
    execute_halted_answers, fun hrun i hd => execute_runs hd (.inl hrun), fun hrun hnone => ?_⟩
  cases hd : decode w with
  | ok i => exact absurd hd (hnone i)
  | error e => exact raises_of_raised (execute_illegal hd hrun)

/-! ### NOP and CLRST -/

/-- Settles O16: NOP only responds, and of its opcode one word alone is legal. -/
theorem nopOnlyResponds : Obligations.NopOnlyResponds := by
  refine ⟨rfl, fun s => ⟨_, rfl, rfl⟩, fun s => ?_, fun w s hrun hop hw => ?_⟩
  · exact ⟨_, execute_runs (i := .nop) rfl (.inr rfl), rfl⟩
  · exact execute_formatZ_raises hrun (.inl hop) (by omega)

/-- Settles O19: CLRST answers the word STATUS reads as and then clears ERR. -/
theorem clrstClearsOnlyErr : Obligations.ClrstClearsOnlyErr := by
  refine ⟨rfl, fun s => ⟨⟨s.statusWord, showsStatus_statusWord s, _, rfl, rfl⟩, ?_, ?_⟩⟩
  · exact execute_runs (i := .clrst) rfl (.inr rfl)
  · exact fun w hrun hop hz => execute_formatZ_raises hrun (.inr (.inl hop)) hz

/-! ### RDREG -/

/-- An optional register that holds a value reads as that value, zero-extended (R23). -/
theorem readOption_of_map {w : Nat} {reg : Option (BitVec w)} {v : Word} (free : Word)
    (h : (reg.map fun u => BitVec.ofNat 32 u.toNat) = some v) : readOption reg free = v := by
  obtain ⟨u, rfl, rfl⟩ := Option.map_eq_some_iff.mp h
  exact setWidth_eq_ofNat 32 u

theorem readOption_of_word {reg : Option Word} {v : Word} (free : Word) (h : reg = some v) :
    readOption reg free = v := by
  rw [h]
  exact BitVec.setWidth_eq v

/-- A register that holds a value reads as it (R23, R123). -/
theorem readReg_of_registerContent {reg : BitVec 4} {v : Word}
    (h : registerContent s reg.toNat = some v) : readReg reg s = v := by
  unfold readReg
  split
  case h_9 hr =>
    rw [hr] at h
    obtain ⟨dup, hdup, rfl⟩ := Option.map_eq_some_iff.mp h
    exact showsStatus_statusWord s dup hdup
  case h_10 hr | h_11 hr => rw [hr] at h; exact Option.some.inj h
  case h_12 hr | h_13 hr => rw [hr] at h; exact readOption_of_word _ h
  case h_14 hr | h_15 hr => rw [hr] at h; exact readOption_of_map _ h
  case h_16 =>
    have hr : reg.toNat = 15 := by
      have := reg.isLt
      simp only [imp_false] at *
      omega
    rw [hr] at h
    exact readOption_of_map _ h
  -- x[0] to x[7]
  all_goals
    rename_i hr
    rw [hr] at h
    exact (setWidth_eq_ofNat 32 _).trans (Option.some.inj h)

/-- Settles O18: the response is what `readReg` gives, and the state behind it is the one before. -/
theorem rdregReadsTheRegister : Obligations.RdregReadsTheRegister := by
  refine fun reg s => ⟨encode_rdreg_toNat reg, fun v hv => ?_, ⟨_, _, rfl, rfl⟩, ?_, ?_⟩
  · rw [← readReg_of_registerContent hv]
    exact ⟨_, rfl, rfl⟩
  · exact execute_runs (decode_encode_rdreg reg) (.inr rfl)
  · exact fun w hrun hop hz => execute_illegalWord_raises hrun ((illegalWord_iff_of_rdreg hop).mpr hz)

/-! ### SETCFG -/

section Setcfg

variable {reg : BitVec 4} {imm : BitVec 24}

theorem legalValue_reg_le {k v : Nat} (h : LegalValue k v) : k ≤ 7 := by
  unfold LegalValue at h
  omega

/-- The test SETCFG makes is R122's table. -/
theorem legalSetting_iff (reg : BitVec 4) (imm : BitVec 24) :
    legalSetting reg imm = true ↔ LegalValue reg.toNat imm.toNat := by
  unfold legalSetting
  split
  case h_9 =>
    refine iff_of_false Bool.false_ne_true fun h => ?_
    have := legalValue_reg_le h
    simp only [imp_false] at *
    omega
  all_goals
    rename_i hr
    simp [hr, LegalValue]

theorem exec_setcfg_legal (h : LegalValue reg.toNat imm.toNat) (s : State) :
    exec (.setcfg reg imm) s =
      .next ((settleFlags reg (writeReg reg imm s)).respond 0#4 (BitVec.ofNat 32 imm.toNat)) := by
  rw [← setWidth_eq_ofNat]
  exact (if_pos (decide_eq_true (legalValue_reg_le h))).trans (if_pos ((legalSetting_iff reg imm).mpr h))

theorem exec_setcfg_badConfig (hr : reg.toNat ≤ 7) (h : ¬ LegalValue reg.toNat imm.toNat) (s : State) :
    exec (.setcfg reg imm) s =
      .next (s.raised .badConfig (BitVec.ofNat 32 reg.toNat) (BitVec.ofNat 32 imm.toNat)) := by
  rw [← setWidth_eq_ofNat, ← setWidth_eq_ofNat]
  exact (if_pos (decide_eq_true hr)).trans (if_neg (mt (legalSetting_iff reg imm).mp h))

theorem setting_congr (h : t.settings = s.settings) (k : Nat) : setting t k = setting s k := by
  injection h with _ hbpp hsrcdepth htilesz hwidth hheight hncol hpadctl hdupctl
  unfold setting
  rw [hbpp, hsrcdepth, htilesz, hwidth, hheight, hncol, hpadctl, hdupctl]

/-- A legal value fits its register: nothing of it is truncated (R122). -/
theorem setting_writeReg_same (h : LegalValue reg.toNat imm.toNat) (s : State) :
    setting (writeReg reg imm s) reg.toNat = imm.toNat := by
  rcases h with ⟨hr, hv⟩ | ⟨hr, hv⟩ | ⟨hr, hv⟩ | ⟨hr, hv⟩ | ⟨hr, hv⟩ | ⟨hr, hv⟩ | ⟨hr, hv⟩ | ⟨hr, hv⟩ <;>
  · simp only [writeReg, setting, hr, BitVec.toNat_setWidth]
    omega

theorem setting_writeReg_other {k : Nat} (hk : k ≠ reg.toNat) (imm : BitVec 24) (s : State) :
    setting (writeReg reg imm s) k = setting s k := by
  unfold writeReg
  split
  case h_9 => rfl
  all_goals
    rename_i hr
    rw [hr] at hk
    unfold setting
    -- the register written is excluded by `hk`, and every other one is untouched
    split <;> trivial

/-- Writing one of x[0..4] changes the settings of the tile path only. -/
theorem writeReg_of_geometry_register (hr : reg.toNat ≤ 4) (imm : BitVec 24) (s : State) :
    writeReg reg imm s =
      { s with
        bpp := (writeReg reg imm s).bpp, srcdepth := (writeReg reg imm s).srcdepth
        tilesz := (writeReg reg imm s).tilesz, width := (writeReg reg imm s).width
        height := (writeReg reg imm s).height } := by
  unfold writeReg
  split
  case h_6 | h_7 | h_8 => omega
  all_goals rfl

theorem not_runsHalted_encode_setcfg (reg : BitVec 4) (imm : BitVec 24) :
    ¬ RunsHalted (encode (.setcfg reg imm)) := by
  rintro ⟨i, hd, hi⟩
  have hop : opcodeOf i = 1 := by rw [opcodeOf_of_decode hd, ← opField_toNat, opField_encode]; rfl
  rcases hi with rfl | ⟨reg, rfl⟩ | rfl | rfl <;> exact nomatch hop

theorem illegalWord_encode_setcfg (hr : 8 ≤ reg.toNat) (imm : BitVec 24) :
    IllegalWord (encode (.setcfg reg imm)) := by
  have hw := encode_setcfg_toNat reg imm
  have := imm.isLt
  have := reg.isLt
  exact (illegalWord_iff_of_setcfg (by omega)).mpr (by omega)

end Setcfg

/-- Settles O17, from the state SETCFG leaves when the value is legal and from its two error cases. -/
theorem setcfgWritesLegalValues : Obligations.SetcfgWritesLegalValues := by
  intro reg imm s
  refine ⟨encode_setcfg_toNat reg imm, fun hv => ?_, ?_, ?_, ?_⟩
  · refine ⟨_, exec_setcfg_legal hv s, fun k _ => ?_, fun hr => ?_, fun hr => ?_⟩
    · calc setting _ k
          = setting (writeReg reg imm s) k := setting_congr (settleFlags_settings reg (writeReg reg imm s)) k
        _ = if k = reg.toNat then imm.toNat else setting s k := by
          split
          next hk => rw [hk, setting_writeReg_same hv]
          next hk => exact setting_writeReg_other hk imm s
    · rw [settleFlags_of_geometry hr, writeReg_of_geometry_register hr]
      rfl
    · rw [settleFlags_of_palette hr, writeReg_of_palette_register hr]
      rfl
  · exact fun hr hv => raises_of_raised (exec_setcfg_badConfig hr hv s)
  · exact fun hr hrun => execute_illegalWord_raises hrun (illegalWord_encode_setcfg hr imm)
  · exact fun hh => execute_halted_answers hh (not_runsHalted_encode_setcfg reg imm)

end Sys2Proof.Machine

namespace Sys2Proof.Machine

open Sys2Proof.Claims

variable {s t : State}

/-! ### `hwcolor` as a number -/

/-- The mask 0xF8 keeps bits 7:3. -/
theorem and_F8 (n : Nat) : n &&& 0xF8 = n / 8 % 32 * 8 := by
  have hhigh : (n &&& 0xF8) / 8 = n / 8 % 32 := by
    rw [Nat.and_div_two_pow (n := 3), Nat.and_two_pow_sub_one_eq_mod _ 5]
  have hlow : (n &&& 0xF8) % 8 = 0 := by
    rw [Nat.and_mod_two_pow (n := 3)]
    exact Nat.and_zero _
  omega

theorem toNat_and_F8 {w : Nat} (hw : 8 ≤ w) (x : BitVec w) :
    (x &&& 0xF8#w).toNat = x.toNat / 8 % 32 * 8 := by
  have hlt : 0xF8 < 2 ^ w := lt_of_lt_of_le (by decide) (Nat.pow_le_pow_right (by decide) hw)
  rw [BitVec.toNat_and, BitVec.toNat_ofNat, Nat.mod_eq_of_lt hlt, and_F8]

/-- Each term of R140 stays below bit 15, so none is cut off in the hardware word. -/
theorem hwcolor_toNat_eq_or (r g b : Byte) :
    (hwcolor r g b).toNat =
      (b.toNat / 8 % 32 * 8) <<< 7 ||| (g.toNat / 8 % 32 * 8) <<< 2 ||| r.toNat >>> 3 := by
  have hr := r.isLt
  have hblue : (b.toNat / 8 % 32 * 8) % 2 ^ 16 * 2 ^ 7 % 2 ^ 16 = b.toNat / 8 % 32 * 8 * 2 ^ 7 := by omega
  have hgreen : (g.toNat / 8 % 32 * 8) % 2 ^ 16 * 2 ^ 2 % 2 ^ 16 = g.toNat / 8 % 32 * 8 * 2 ^ 2 := by omega
  have hred : r.toNat / 2 ^ 3 % 2 ^ 16 = r.toNat / 2 ^ 3 := by omega
  simp only [hwcolor, BitVec.toNat_or, BitVec.toNat_shiftLeft, BitVec.toNat_setWidth,
    toNat_and_F8 (Nat.le_refl 8), BitVec.toNat_ushiftRight, Nat.shiftLeft_eq, Nat.shiftRight_eq_div_pow,
    hblue, hgreen, hred]

/-- The three terms of R140 do not overlap: blue, green and red stand in bits 14:10, 9:5 and 4:0. -/
theorem hwcolor_toNat (r g b : Byte) :
    (hwcolor r g b).toNat = b.toNat / 8 * 1024 + g.toNat / 8 * 32 + r.toNat / 8 := by
  have hr : r.toNat / 8 < 2 ^ 5 := by have := r.isLt; omega
  have hg : g.toNat / 8 * 2 ^ 5 + r.toNat / 8 < 2 ^ 10 := by have := g.isLt; omega
  have hb := b.isLt
  have hblue : (b.toNat / 8 % 32 * 8) <<< 7 = (b.toNat / 8) <<< 10 := by
    simp only [Nat.shiftLeft_eq]
    omega
  have hgreen : (g.toNat / 8 % 32 * 8) <<< 2 = (g.toNat / 8) <<< 5 := by
    have := g.isLt
    simp only [Nat.shiftLeft_eq]
    omega
  rw [hwcolor_toNat_eq_or, hblue, hgreen, Nat.shiftRight_eq_div_pow, Nat.or_assoc,
    ← Nat.shiftLeft_add_eq_or_of_lt hr, Nat.shiftLeft_eq (g.toNat / 8), ← Nat.shiftLeft_add_eq_or_of_lt hg,
    Nat.shiftLeft_eq]
  omega

/-- Settles O22, from the formula and from its three fields as numbers. -/
theorem hwcolorPacksBlueGreenRed : Obligations.HwcolorPacksBlueGreenRed := by
  intro r g b
  have hfields := hwcolor_toNat r g b
  refine ⟨?_, hfields, ?_⟩
  · rw [and_F8, and_F8]
    exact hwcolor_toNat_eq_or r g b
  · have := b.isLt
    have := g.isLt
    have := r.isLt
    omega

/-- Settles O23: each law is one about the three fields as numbers. -/
theorem hwcolorRoundTripBound : Obligations.HwcolorRoundTripBound := by
  refine ⟨fun r g b => ?_, fun r g b r' g' b' hr hg hb => ?_, fun v => ⟨fun hv => ?_, ?_⟩⟩
  · have := r.isLt
    have := g.isLt
    have := b.isLt
    have hfields := hwcolor_toNat r g b
    simp only [toNat_and_F8 (show 8 ≤ 8 by decide), toNat_and_F8 (show 8 ≤ 16 by decide),
      BitVec.toNat_shiftLeft, BitVec.toNat_ushiftRight, Nat.shiftLeft_eq, Nat.shiftRight_eq_div_pow]
    omega
  · apply BitVec.eq_of_toNat_eq
    rw [hwcolor_toNat, hwcolor_toNat, hr, hg, hb]
  · refine ⟨BitVec.ofNat 8 (v.toNat % 32 * 8), BitVec.ofNat 8 (v.toNat / 32 % 32 * 8),
      BitVec.ofNat 8 (v.toNat / 1024 * 8), BitVec.eq_of_toNat_eq ?_⟩
    rw [hwcolor_toNat]
    simp only [BitVec.toNat_ofNat]
    omega
  · rintro ⟨r, g, b, rfl⟩
    have := hwcolor_toNat r g b
    omega

/-- Settles O24: CVTCOL responds and does nothing else, and the dispatch refuses the other words. -/
theorem cvtcolAnswersTheColour : Obligations.CvtcolAnswersTheColour := by
  refine ⟨fun r g b s => ⟨encode_cvtcol_toNat r g b, ?_, fun hh => ?_⟩, fun w s hrun hop hz => ?_,
    by decide⟩
  · rw [← setWidth_eq_ofNat]
    exact ⟨_, rfl, rfl⟩
  · rw [execute_halted_ok (decode_encode_cvtcol r g b) hh rfl]
    exact answers_answerHalted s
  · exact execute_illegalWord_raises hrun ((illegalWord_iff_of_cvtcol hop).mpr hz)

/-! ### The errors of CVTPAL, and what its success writes -/

/-- The test CVTPAL makes is the overflow condition of R143. -/
theorem overflows_iff : Overflows s ↔ padEnabled s = true ∧ padSize s < s.ncol.toNat := by
  rw [padSize_eq]
  rfl

/-- Settles O28, by the two tests CVTPAL makes, in their order. -/
theorem cvtpalRaisesOverflowThenCapacity : Obligations.CvtpalRaisesOverflowThenCapacity := by
  refine fun s => ⟨fun ho => ?_, fun ho hcap => ?_⟩
  · rw [← setWidth_eq_ofNat, ← padSize_eq]
    exact raises_of_raised (if_pos (overflows_iff.mp ho))
  · rw [← paletteLength_eq_outLength] at hcap ⊢
    exact raises_of_raised
      ((if_neg (mt overflows_iff.mpr ho)).trans (requireCapacity_over hcap))

/-- A palette entry below NCOL after a successful CVTPAL (R147). -/
theorem read_pal_of_cvtpal_succeeded (h : exec .cvtpal s = .next t)
    (hok : ∃ r, t.response = some r ∧ r.status = 0#4) {i : Nat} (hi : i < s.ncol.toNat) :
    t.pal.read i = (s.col.read i).map hwcolorOfEntry := by
  obtain ⟨r, hr, h0⟩ := hok
  obtain ⟨⟨ho, -⟩, data, rfl⟩ := exec_succeeded h hr h0
  exact (read_converted_pal (mt overflows_iff.mp ho) i).trans (if_pos hi)

/-- Settles O29: each entry is `hwcolor` of its own source cell. -/
theorem cvtpalKeepsTheOrder : Obligations.CvtpalKeepsTheOrder := by
  intro s s' t t' h h' hok hok' i j hi hj hcol
  rw [read_pal_of_cvtpal_succeeded h hok hi, read_pal_of_cvtpal_succeeded h' hok' hj, hcol]

/-! ### The length and the padding of the Palette -/

theorem outLength_of_padding (h : s.padctl.getLsbD 16 = true) : outLength s = s.padctl.toNat % 65536 :=
  if_pos h

theorem outLength_of_no_padding (h : s.padctl.getLsbD 16 = false) : outLength s = s.ncol.toNat :=
  if_neg (by rw [h]; exact Bool.false_ne_true)

/-- PALLEN, and PAL beyond the source entries, after CVTPAL (R144). -/
theorem exec_cvtpal_beyond_source (ho : ¬ Overflows s) (hfit : outLength s ≤ s.params.palEntries) :
    ∃ t, exec .cvtpal s = .next t ∧ t.pallen = some (BitVec.ofNat 16 (outLength s)) ∧
      ∀ a, s.ncol.toNat ≤ a →
        t.pal.read a = if a < outLength s then some 0#16 else s.pal.read a := by
  obtain ⟨t, ht⟩ := exec_answers .cvtpal s
  obtain rfl := exec_cvtpal_converted ho hfit ht
  refine ⟨_, ht, ?_, fun a ha => ?_⟩
  · rw [← paletteLength_eq_outLength]
    rfl
  · rw [read_converted_pal ho, if_neg (Nat.not_lt.mpr ha)]

/-- Settles O58, at the length each setting of PAD_EN gives. -/
theorem cvtpalPadsWithZeroWords : Obligations.CvtpalPadsWithZeroWords := by
  have hblack : hwcolor 0#8 0#8 0#8 = 0#16 := by decide
  refine fun s => ⟨fun hpad hfit => ?_, fun hpad hle hfit => ?_, hblack⟩
  · have hlen := outLength_of_no_padding hpad
    obtain ⟨t, ht, hpallen, hread⟩ := exec_cvtpal_beyond_source (s := s)
      (fun ho => Bool.false_ne_true (hpad.symm.trans ho.1)) (hlen.trans_le hfit)
    rw [hlen] at hpallen hread
    exact ⟨t, ht, hpallen, fun a ha => (hread a ha).trans (if_neg (Nat.not_lt.mpr ha))⟩
  · have hlen := outLength_of_padding hpad
    rw [hblack]
    exact hlen ▸ exec_cvtpal_beyond_source (fun ho => Nat.not_lt.mpr hle ho.2) (hlen.trans_le hfit)

/-! ### The duplicate scan against the set P of R146 -/

/-- The order in which the scan meets the pairs: by rising `i`, then by rising `j` (R146). -/
def PairBefore (p q : Nat × Nat) : Prop := p.1 < q.1 ∨ (p.1 = q.1 ∧ p.2 < q.2)

theorem duplicatePairs_sorted (lo : Nat) (ws : List (Option HwColour)) :
    (duplicatePairs lo ws).Pairwise PairBefore := by
  refine List.pairwise_flatMap.mpr ⟨fun i _ => ?_, ?_⟩
  · exact List.pairwise_map.mpr
      ((List.pairwise_lt_range.filter _).imp fun hlt => .inr ⟨rfl, hlt⟩)
  · refine List.pairwise_lt_range.imp fun {i i'} hlt p hp q hq => .inl ?_
    obtain ⟨j, -, rfl⟩ := List.mem_map.mp hp
    obtain ⟨j', -, rfl⟩ := List.mem_map.mp hq
    exact hlt

theorem duplicatePairs_nodup (lo : Nat) (ws : List (Option HwColour)) : (duplicatePairs lo ws).Nodup :=
  (duplicatePairs_sorted lo ws).imp fun {p q} hlt heq => by
    subst heq
    unfold PairBefore at hlt
    omega

theorem mem_duplicatePairs {lo : Nat} {ws : List (Option HwColour)} {p : Nat × Nat} :
    p ∈ duplicatePairs lo ws ↔ p.1 < ws.length ∧ p.2 < p.1 ∧ lo ≤ p.2 ∧ ws[p.1]? = ws[p.2]? := by
  obtain ⟨i, j⟩ := p
  simp [duplicatePairs]

theorem mem_equalPairs {lo n : Nat} {pal : Memory 16} {p : Nat × Nat} :
    p ∈ equalPairs lo n pal ↔ p.1 < n ∧ p.2 < p.1 ∧ lo ≤ p.2 ∧ pal.read p.1 = pal.read p.2 := by
  simp only [equalPairs, Finset.mem_filter, Finset.mem_product, Finset.mem_range]
  exact ⟨fun ⟨⟨hi, _⟩, hlo, hj, heq⟩ => ⟨hi, hj, hlo, heq⟩,
    fun ⟨hi, hj, hlo, heq⟩ => ⟨⟨hi, hj.trans hi⟩, hlo, hj, heq⟩⟩

/-- A pair no later than any other pair of a sorted list is its head. -/
theorem firstPair_of_least {ps : List (Nat × Nat)} {p : Nat × Nat} (hsorted : ps.Pairwise PairBefore)
    (hp : p ∈ ps) (hleast : ∀ q ∈ ps, p.1 < q.1 ∨ (p.1 = q.1 ∧ p.2 ≤ q.2)) :
    firstPair ps = BitVec.ofNat 16 (p.1 * 256 + p.2) := by
  cases ps with
  | nil => exact nomatch hp
  | cons q qs =>
    rcases List.mem_cons.mp hp with rfl | hp
    · rfl
    · -- `p` would stand after the head `q`, and so be later than `q`
      have hbefore : PairBefore q p := List.rel_of_pairwise_cons hsorted hp
      have := hleast q List.mem_cons_self
      unfold PairBefore at hbefore
      omega

/-- The pairs CVTPAL's scan lists (R146). -/
abbrev State.scanned (s : State) : List (Nat × Nat) :=
  duplicatePairs (scanBound s.dupctl) (sourceEntries s.ncol.toNat s)

/-- The scan over the source entries lists the pairs of P over the palette CVTPAL writes. -/
theorem mem_scanned (ho : ¬ Overflows s) {p : Nat × Nat} :
    p ∈ s.scanned ↔ p ∈ equalPairs (scanBound s.dupctl) s.ncol.toNat s.converted.pal := by
  have hentry (i : Nat) (hi : i < s.ncol.toNat) :
      (sourceEntries s.ncol.toNat s)[i]? = some (s.converted.pal.read i) := by
    rw [read_converted_pal ho, if_pos hi]
    simp [sourceEntries, hi]
  rw [mem_duplicatePairs, mem_equalPairs, sourceEntries_length]
  refine and_congr_right fun hi => and_congr_right fun hj => and_congr_right fun _ => ?_
  rw [hentry _ hi, hentry _ (hj.trans hi), Option.some_inj]

/-- Each pair of P is listed once. -/
theorem length_scanned (ho : ¬ Overflows s) :
    s.scanned.length = (equalPairs (scanBound s.dupctl) s.ncol.toNat s.converted.pal).card := by
  have hset : s.scanned.toFinset = equalPairs (scanBound s.dupctl) s.ncol.toNat s.converted.pal :=
    Finset.ext fun _ => List.mem_toFinset.trans (mem_scanned ho)
  rw [← hset, List.toFinset_card_of_nodup (duplicatePairs_nodup _ _)]

/-- At most 256 entries have at most 32640 pairs (R39). -/
theorem length_scanned_le (hn : s.ncol.toNat ≤ 256) : s.scanned.length ≤ 32640 :=
  calc s.scanned.length
      ≤ (sourceEntries s.ncol.toNat s).length.choose 2 := duplicatePairs_length_le _ _
    _ = s.ncol.toNat.choose 2 := by rw [sourceEntries_length]
    _ ≤ Nat.choose 256 2 := Nat.choose_le_choose 2 hn
    _ = 32640 := by rw [Nat.choose_two_right]

/-- With every source entry written the scan has a result (R143). -/
theorem dupscan_of_written (h : ∀ i, i < s.ncol.toNat → (s.col.read i).isSome = true) :
    dupscan s.dupctl (sourceEntries s.ncol.toNat s) =
      some (BitVec.ofNat 16 s.scanned.length, firstPair s.scanned) := by
  refine if_pos (List.all_eq_true.mpr fun e he => ?_)
  obtain ⟨i, hi, rfl⟩ := List.mem_map.mp he
  rw [Option.isSome_map]
  exact h i (List.mem_range.mp hi)

/-- Settles O26: the scan lists the pairs of P in their order and each once, so its length is their number
and its head the first of them. -/
theorem cvtpalCountsDuplicatePairs : Obligations.CvtpalCountsDuplicatePairs := by
  intro s t hn ho hfit h pairs hwritten
  obtain rfl := exec_cvtpal_converted ho hfit h
  have hscan := dupscan_of_written hwritten
  have hcount : s.converted.dupcnt = some (BitVec.ofNat 16 s.scanned.length) :=
    congrArg (Option.map Prod.fst) hscan
  have hfirst : s.converted.dupidx = some (firstPair s.scanned) := congrArg (Option.map Prod.snd) hscan
  have hcard : pairs.card = s.scanned.length := (length_scanned ho).symm
  have hle := length_scanned_le hn
  rw [hcard, hfirst]
  refine ⟨hle, hcount, ?_, fun h0 => ?_, fun p hp hleast => ?_⟩
  · refine (dup_of_scan hcount).trans ?_
    rw [BitVec.toNat_ofNat, Nat.mod_eq_of_lt (by omega)]
  · rw [List.length_eq_zero_iff.mp h0]
    rfl
  · rw [firstPair_of_least (duplicatePairs_sorted _ _) ((mem_scanned ho).mpr hp) fun q hq =>
      hleast q ((mem_scanned ho).mp hq)]

/-! ### A command that passes its tests -/

/-- The response data of a successful command (R121 to R192). -/
def State.successData (s : State) : Instr → Word
  | .nop | .reset | .tload _ _ => 0#32
  | .setcfg _ imm => imm.setWidth 32
  | .rdreg reg => readReg reg s
  | .clrst => s.statusWord
  | .cvtcol r g b => (hwcolor r g b).setWidth 32
  | .cvtpal => paletteData s (dupscan s.dupctl (sourceEntries s.ncol.toNat s))
  | .tenc => toWord (bpt s)
  | .taddr tx ty => toWord (tileOffset tx.toNat ty.toNat s)
  | .tstore => storeAddress s
  | .vlen | .vclr | .cvtimg => toWord (totalLen s)

/-- The converse of `exec_outcome`: an accepted command has its effect and responds. -/
theorem exec_of_accepts {i : Instr} (h : s.Accepts i) :
    exec i s = .next ((s.effect i).respond 0#4 (s.successData i)) := by
  cases i with
  | nop | rdreg reg | clrst | reset | cvtcol r g b => rfl
  | setcfg reg imm => exact (if_pos h.1).trans (if_pos h.2)
  | cvtpal => exact (if_neg h.1).trans (requireCapacity_fits h.2)
  | tload tx ty => exact exec_tload_inBounds h.1 h.2
  | tenc => exact exec_tenc_loaded h.1 h.2 rfl
  | taddr tx ty => exact (requireBpp_legal h.1).trans (if_pos h.2)
  | tstore =>
    obtain ⟨hb, hready, hfit⟩ := h
    exact (requireBpp_legal hb).trans ((if_pos hready).trans (requireCapacity_fits hfit))
  | vlen => exact (requireBpp_legal h.1).trans (requireGeometry_ok h.2)
  | vclr =>
    obtain ⟨hb, hg, hfit⟩ := h
    exact exec_vclr_fits hb hg hfit
  | cvtimg =>
    obtain ⟨hb, hg, hpix, hfit⟩ := h
    exact exec_cvtimg_fits hb hg hpix hfit

/-- A command that responds with status 0 was accepted, and this is the state it left. -/
theorem exec_succeeded_eq {i : Instr} {r : Response} (h : exec i s = .next t) (hr : t.response = some r)
    (h0 : r.status = 0#4) : s.Accepts i ∧ t = (s.effect i).respond 0#4 (s.successData i) := by
  obtain ⟨ha, -⟩ := exec_succeeded h hr h0
  rw [exec_of_accepts ha] at h
  injection h with h
  exact ⟨ha, h.symm⟩

/-! ### The two paths -/

/-- CVTPAL does not see the tile path. -/
theorem exec_cvtpal_withTilePath (q : State) (h : exec .cvtpal s = .next t) :
    exec .cvtpal (withTilePath s q) = .next (withTilePath t q) := by
  rcases execCvtpal_cases h with ⟨ho, rfl⟩ | ⟨ho, hcap, rfl⟩ | ⟨ho, hfit, rfl⟩
  · exact if_pos ho
  · exact (if_neg ho).trans (requireCapacity_over hcap)
  · exact (if_neg ho).trans (requireCapacity_fits hfit)

/-- The tests, the effect and the response data of a tile command do not see the palette path. -/
theorem tileCommand_withPalettePath {i : Instr} (hi : TileCommand i) (s p : State) :
    ((withPalettePath s p).Accepts i ↔ s.Accepts i) ∧
      (withPalettePath s p).effect i = withPalettePath (s.effect i) p ∧
      (withPalettePath s p).successData i = s.successData i := by
  rcases hi with ⟨tx, ty, rfl⟩ | rfl | ⟨tx, ty, rfl⟩ | rfl | rfl | rfl | rfl <;>
    exact ⟨Iff.rfl, rfl, rfl⟩

/-- A tile command leaves the palette path as it was, whether it succeeds or raises an error. -/
theorem tileCommand_keeps_palettePath {i : Instr} (hi : TileCommand i) (h : exec i s = .next t) :
    withPalettePath t s = t := by
  rcases exec_outcome h with ⟨e, info0, info1, rfl⟩ | ⟨-, data, rfl⟩
  · rfl
  · obtain ⟨-, heffect, -⟩ := tileCommand_withPalettePath hi s s
    exact congrArg (State.respond · 0#4 data) heffect.symm

/-- Settles O30: what CVTPAL and the tile commands test, write and answer, with the other path replaced. -/
theorem pathsAreIndependent : Obligations.PathsAreIndependent := by
  refine ⟨fun s q t h => exec_cvtpal_withTilePath q h, fun i s t hi h => tileCommand_keeps_palettePath hi h,
    fun i s p t r hi h hr h0 => ?_⟩
  obtain ⟨ha, rfl⟩ := exec_succeeded_eq h hr h0
  obtain ⟨haccepts, heffect, hdata⟩ := tileCommand_withPalettePath hi s p
  rw [exec_of_accepts (haccepts.mpr ha), heffect, hdata]
  rfl

end Sys2Proof.Machine

namespace Sys2Proof.Machine

open Sys2Proof.Claims

variable {s t : State}

/-! ### One packed byte against its eight pixels -/

/-- A byte is the packed byte of a plane when its bit `7 - col` is the plane's bit of each pixel (R163). -/
theorem planeByte_eq {px : Nat → Byte} {bit : Nat} {e : Byte}
    (h : ∀ col, col < 8 → (px col).getLsbD bit = e.getLsbD (7 - col)) : planeByte px bit = e := by
  refine BitVec.eq_of_getLsbD_eq fun i hi => ?_
  have hcol : 7 - (7 - i) = i := by omega
  have hbit := planeByte_getLsbD px bit (7 - i) (by omega)
  rw [h (7 - i) (by omega), hcol] at hbit
  exact hbit

theorem encodeByte_some (tile : Nat → Byte) (row bit : Nat) :
    encodeByte (fun i => some (tile i)) row bit =
      some (planeByte (fun col => tile (8 * row + col)) bit) :=
  encodeByte_of_values _ row bit fun _ _ => rfl

/-- The byte of a row and a plane depends on that plane's bit of the row's pixels alone. -/
theorem encodeByte_congr {tile tile' : Nat → Option Byte} {row bit : Nat}
    (h : ∀ col, col < 8 → (tile (8 * row + col)).map (·.getLsbD bit) =
      (tile' (8 * row + col)).map (·.getLsbD bit)) :
    encodeByte tile row bit = encodeByte tile' row bit := by
  by_cases hmiss : ∃ col, col < 8 ∧ tile (8 * row + col) = none
  · obtain ⟨col, hc, hcell⟩ := hmiss
    have hcell' : tile' (8 * row + col) = none := by simpa [hcell] using (h col hc).symm
    rw [encodeByte_of_missing tile row bit col hc hcell,
      encodeByte_of_missing tile' row bit col hc hcell']
  · have hall (col : Nat) (hc : col < 8) : (tile (8 * row + col)).isSome = true :=
      Option.isSome_iff_ne_none.mpr fun hcell => hmiss ⟨col, hc, hcell⟩
    have hall' (col : Nat) (hc : col < 8) : (tile' (8 * row + col)).isSome = true := by
      simpa [hall col hc] using (congrArg Option.isSome (h col hc)).symm
    rw [encodeByte_of_values tile row bit hall, encodeByte_of_values tile' row bit hall']
    refine congrArg some (planeByte_eq fun col hc => ?_)
    obtain ⟨v, hv⟩ := Option.isSome_iff_exists.mp (hall col hc)
    obtain ⟨v', hv'⟩ := Option.isSome_iff_exists.mp (hall' col hc)
    have hbit := h col hc
    rw [hv, hv'] at hbit
    rw [planeByte_getLsbD _ bit col hc, hv, hv']
    exact Option.some.inj hbit

/-- A row whose pixels are all 0 in a plane packs to a zero byte there (R166 d). -/
theorem encodeByte_eq_zero {tile : Nat → Byte} {row bit : Nat}
    (h : ∀ col, col < 8 → (tile (8 * row + col)).getLsbD bit = false) :
    encodeByte (fun i => some (tile i)) row bit = some 0#8 := by
  rw [encodeByte_some]
  exact congrArg some (planeByte_eq fun col hc => (h col hc).trans BitVec.getLsbD_zero.symm)

/-- A cell of the encoding is the packed byte of its row and plane (R105, R163). -/
theorem packedByte_encodeTile {tile px : Nat → Option Byte} {b p row k : Nat} (hp : p < b / 2)
    (hr : row < 8) (hk : k < 2) (hpx : ∀ col, col < 8 → tile (8 * row + col) = px col) :
    PackedByte ((encodeTile tile b)[16 * p + 2 * row + k]?).join px (2 * p + k) := by
  intro hall
  rw [encodeTile_block tile b p row k hp hr hk, Option.join_some,
    encodeByte_of_values tile row (2 * p + k) fun col hc => by rw [hpx col hc]; exact hall col hc]
  refine ⟨_, rfl, fun col v hc hv => ?_⟩
  rw [planeByte_getLsbD _ _ col hc, hpx col hc, hv]
  rfl

/-! ### The encodings at two bitplane counts -/

/-- Only index bits below `b` are read (R164). -/
theorem encodeTile_congr {tile tile' : Nat → Option Byte} {b : Nat} (hb : legalBpp b)
    (h : ∀ i bit, bit < b → (tile i).map (·.getLsbD bit) = (tile' i).map (·.getLsbD bit)) :
    encodeTile tile b = encodeTile tile' b := by
  refine List.map_congr_left fun off hoff => encodeByte_congr fun col _ => h _ _ ?_
  have := List.mem_range.mp hoff
  rcases hb with rfl | rfl | rfl <;> omega

/-- A bit below `b` of an index masked to `b` bits is the index's own bit. -/
theorem getLsbD_and_mask {b bit : Nat} (h : bit < b) (v : Byte) :
    (v &&& BitVec.ofNat 8 (2 ^ b - 1)).getLsbD bit = v.getLsbD bit := by
  rw [BitVec.getLsbD_and, BitVec.getLsbD_ofNat, Nat.testBit_two_pow_sub_one, decide_eq_true h,
    Bool.and_true]
  by_cases hbit : bit < 8
  · rw [decide_eq_true hbit, Bool.and_true]
  · rw [BitVec.getLsbD_of_ge v bit (by omega), Bool.false_and]

/-- The encoding at a smaller count begins the one at a larger count (R166 b). -/
theorem take_encodeTile (tile : Nat → Option Byte) {b b' : Nat} (h : b' ≤ b) :
    (encodeTile tile b).take (8 * b') = encodeTile tile b' := by
  unfold encodeTile
  rw [← List.map_take, List.take_range, Nat.min_eq_left (Nat.mul_le_mul_left 8 h)]

/-- Beyond the planes that the indices fit, every byte of the encoding is 0 (R166 c). -/
theorem drop_encodeTile {tile : Nat → Byte} {b b' : Nat} (hb' : legalBpp b')
    (h : ∀ i, i < 64 → (tile i).toNat < 2 ^ b') :
    (encodeTile (fun i => some (tile i)) b).drop (8 * b') =
      List.replicate (8 * b - 8 * b') (some 0#8) := by
  refine List.ext_getElem (by simp) fun j hj _ => ?_
  rw [List.length_drop, encodeTile_length] at hj
  have hbit : b' ≤ 2 * ((8 * b' + j) / 16) + (8 * b' + j) % 2 := by
    rcases hb' with rfl | rfl | rfl <;> omega
  have hcell := encodeTile_getElem? (fun i => some (tile i)) b (8 * b' + j) (by omega)
  rw [List.getElem_drop, List.getElem_replicate, List.getElem_eq_iff, hcell]
  refine congrArg some (encodeByte_eq_zero fun col hc => ?_)
  exact Nat.testBit_lt_two_pow ((h _ (by omega)).trans_le (Nat.pow_le_pow_right (by decide) hbit))

theorem encodeTile_zero (b : Nat) :
    encodeTile (fun _ => some 0#8) b = List.replicate (8 * b) (some 0#8) :=
  List.eq_replicate_iff.mpr ⟨encodeTile_length _ b, fun c hc => by
    obtain ⟨off, -, rfl⟩ := List.mem_map.mp hc
    exact encodeByte_eq_zero (tile := fun _ => 0#8) fun _ _ => BitVec.getLsbD_zero⟩

/-- Settles O34: the encoder reads plane by plane, and only the planes below the count. -/
theorem encodingTruncatesAndExtends : Obligations.EncodingTruncatesAndExtends := by
  refine ⟨fun tile b hb => encodeTile_congr hb fun i bit hbit => ?_,
    fun tile b b' _ _ h => take_encodeTile tile h.le,
    fun tile b b' _ hb' _ h => drop_encodeTile hb' h, fun b _ => encodeTile_zero b⟩
  rw [Option.map_map]
  exact congrArg (fun f => (tile i).map f) (funext fun v => (getLsbD_and_mask hbit v).symm)

/-! ### The inverse of the encoding -/

/-- A number below `2 ^ b` is the sum of its `b` binary digits at their weights. -/
theorem sum_testBit {b n : Nat} (h : n < 2 ^ b) :
    ((List.range b).map fun i => (n.testBit i).toNat * 2 ^ i).sum = n := by
  suffices hmod : ((List.range b).map fun i => (n.testBit i).toNat * 2 ^ i).sum = n % 2 ^ b from
    hmod.trans (Nat.mod_eq_of_lt h)
  clear h
  induction b with
  | zero => simp [Nat.mod_one]
  | succ b ih =>
    rw [List.range_succ, List.map_append, List.sum_append, ih, Nat.mod_pow_succ, Nat.mul_comm (2 ^ b)]
    simp [Nat.toNat_testBit]

/-- Bit `7 - col` of the byte of plane `i` in row `row` is bit `i` of the pixel there (R166 e). -/
theorem encodeTile_plane {tile : Nat → Byte} {b row i : Nat} (hb : legalBpp b) (hr : row < 8)
    (hi : i < b) :
    (encodeTile (fun i => some (tile i)) b)[16 * (i / 2) + 2 * row + i % 2]? =
      some (some (planeByte (fun col => tile (8 * row + col)) i)) := by
  have hp : i / 2 < b / 2 := by rcases hb with rfl | rfl | rfl <;> omega
  rw [encodeTile_block _ b (i / 2) row (i % 2) hp hr (Nat.mod_lt i (by decide)), Nat.div_add_mod,
    encodeByte_some]

/-- The tile whose encoding at count `b` is `bytes`: the pixel in row `i / 8` and column `i % 8` gathers its
bits from the bytes of its row in the `b` planes (R166 e). -/
def unpackTile (bytes : List Byte) (b i : Nat) : Byte :=
  (BitVec.ofFnLE fun j : Fin b =>
    (bytes.getD (16 * (j / 2) + 2 * (i / 8) + j % 2) 0#8).getLsbD (7 - i % 8)).setWidth 8

theorem unpackTile_lt (bytes : List Byte) (b i : Nat) : (unpackTile bytes b i).toNat < 2 ^ b := by
  rw [unpackTile, BitVec.toNat_setWidth]
  exact (Nat.mod_le _ _).trans_lt (BitVec.isLt _)

theorem unpackTile_getLsbD (bytes : List Byte) {b row col bit : Nat} (hb : legalBpp b) (hc : col < 8)
    (hbit : bit < b) :
    (unpackTile bytes b (8 * row + col)).getLsbD bit =
      (bytes.getD (16 * (bit / 2) + 2 * row + bit % 2) 0#8).getLsbD (7 - col) := by
  have hrow : (8 * row + col) / 8 = row := by omega
  have hcol : (8 * row + col) % 8 = col := by omega
  have h8 : bit < 8 := by rcases hb with rfl | rfl | rfl <;> omega
  rw [unpackTile, BitVec.getLsbD_setWidth, decide_eq_true h8, Bool.true_and, BitVec.getLsbD_ofFnLE,
    dif_pos hbit, hrow, hcol]

theorem encodeTile_unpackTile {bytes : List Byte} {b : Nat} (hb : legalBpp b)
    (hlen : bytes.length = 8 * b) :
    encodeTile (fun i => some (unpackTile bytes b i)) b = bytes.map some := by
  refine List.ext_getElem (by simp [hlen]) fun off hoff _ => ?_
  rw [encodeTile_length] at hoff
  have hbit : 2 * (off / 16) + off % 2 < b := by rcases hb with rfl | rfl | rfl <;> omega
  have hplace : 16 * ((2 * (off / 16) + off % 2) / 2) + 2 * (off % 16 / 2) +
      (2 * (off / 16) + off % 2) % 2 = off := by omega
  rw [List.getElem_map, List.getElem_eq_iff, encodeTile_getElem? _ b off hoff, encodeByte_some]
  refine congrArg (fun e => some (some e)) (planeByte_eq fun col hc => ?_)
  rw [unpackTile_getLsbD bytes hb hc hbit, hplace, List.getD_eq_getElem bytes 0#8 (hlen ▸ hoff)]

/-- Settles O35: each plane's byte gives back the plane's bit of a pixel, and `unpackTile` undoes the
encoder. -/
theorem encodingIsABijection : Obligations.EncodingIsABijection := by
  refine fun b hb => ⟨fun tile row col hr hc hv => ?_, fun bytes hlen =>
    ⟨unpackTile bytes b, unpackTile_lt bytes b, encodeTile_unpackTile hb hlen⟩⟩
  refine (sum_testBit hv).symm.trans (congrArg List.sum (List.map_congr_left fun i hi => ?_))
  rw [encodeTile_plane hb hr (List.mem_range.mp hi)]
  dsimp only
  rw [planeByte_getLsbD _ i col hc, BitVec.testBit_toNat]

/-! ### TLOAD and TENC -/

/-- TILE after TLOAD, cell by cell (R160, R162). -/
theorem read_loadedTile (tx ty : Nat) {row col : Nat} (hr : row < 8) (hc : col < 8) :
    (loadedTile tx ty s).read (8 * row + col) =
      s.pix.read ((8 * ty + row) * s.width.toNat + 8 * tx + col) := by
  rw [loadedTile, read_filled_buffer, Nat.add_assoc _ (8 * tx)]
  exact tileOf_extract tx ty row col hr hc

/-- A buffer filled with fewer cells than its size holds no value from there on (R46). -/
theorem read_filled_buffer_beyond {w a : Nat} {vs : List (Option (BitVec w))} (h : vs.length ≤ a) :
    (Memory.writeRange [] 0 vs).read a = none := by
  rw [read_filled_buffer, List.getElem?_eq_none h]
  rfl

theorem exec_tload_outOfBounds {tx ty : BitVec 14} (hin : ¬ inBounds tx.toNat ty.toNat s) :
    exec (.tload tx ty) s = .next (s.raised .outOfBounds (tx.setWidth 32) (ty.setWidth 32)) :=
  if_neg hin

theorem exec_tload_capacity {tx ty : BitVec 14} (hin : inBounds tx.toNat ty.toNat s)
    (hcap : s.params.pixSize < matrixCells s) :
    exec (.tload tx ty) s =
      .next (s.raised .capacity (toWord (matrixCells s)) (toWord s.params.pixSize)) :=
  (if_pos hin).trans (requireCapacity_over hcap)

/-- Settles O31: the two tests, and TILE filled with the extracted block. -/
theorem tloadExtractsTheBlock : Obligations.TloadExtractsTheBlock := by
  refine fun tx ty s => ⟨encodeT_toNat 7#4 tx ty, fun hin => ?_, fun hin hcap => ?_, fun hin hpix => ?_⟩
  · rw [← setWidth_eq_ofNat 32 tx, ← setWidth_eq_ofNat 32 ty]
    exact raises_of_raised (exec_tload_outOfBounds hin)
  · exact raises_of_raised (exec_tload_capacity hin hcap)
  · exact ⟨_, exec_tload_inBounds hin hpix, rfl, fun row col hr hc => read_loadedTile _ _ hr hc,
      fun a ha => read_filled_buffer_beyond (by rwa [extract_length])⟩

/-- Settles O32: the two tests, and ETILE filled with the encoding of TILE. -/
theorem tencEncodesTheTile : Obligations.TencEncodesTheTile := by
  refine ⟨rfl, fun s => ⟨fun hb => raises_of_raised (requireBpp_illegal hb),
    fun hb htv => raisesNotReady_of_raised (exec_tenc_notReady hb htv), fun hb htv =>
    ⟨_, exec_tenc_loaded hb htv rfl, rfl, fun p row k hp hr hk => ?_, fun a ha => ?_⟩⟩⟩
  · have hread := read_filled_buffer (encodeTile s.tile.read (bppEff s)) (16 * p + 2 * row + k)
    exact hread ▸ packedByte_encodeTile hp hr hk fun _ _ => rfl
  · exact read_filled_buffer_beyond (by rwa [encodeTile_length])

/-! ### CVTIMG in the terms of R181, R183 and R185 -/

theorem mode8_iff (s : State) : mode8 s ↔ s.tilesz.toNat = 8 := BitVec.toNat_inj.symm

theorem tileIndex_eq_slotOf (tx ty : Nat) (s : State) :
    tileIndex tx ty s = slotOf s.width.toNat s.tilesz.toNat tx ty := by
  by_cases h : mode8 s
  · exact (tileIndex_mode8 h tx ty).trans (if_pos ((mode8_iff s).mp h)).symm
  · exact (tileIndex_mode16 h tx ty).trans (if_neg fun h8 => h ((mode8_iff s).mpr h8)).symm

theorem tileOffset_eq_slotOf (tx ty : Nat) (s : State) :
    tileOffset tx ty s = slotOf s.width.toNat s.tilesz.toNat tx ty * (8 * bppEff s) :=
  congrArg (· * bpt s) (tileIndex_eq_slotOf tx ty s)

theorem totalLen_eq_lengthOf (s : State) :
    totalLen s = lengthOf s.width.toNat s.height.toNat s.tilesz.toNat (8 * bppEff s) := by
  unfold totalLen totalSlots lengthOf
  by_cases h : mode8 s
  · rw [if_pos h, if_pos ((mode8_iff s).mp h)]
    rfl
  · rw [if_neg h, if_neg fun h8 => h ((mode8_iff s).mpr h8)]
    rfl

/-- VRAM before the tile loop: zero below the length (R191, R192). -/
theorem read_clearedVram (s : State) (a : Nat) :
    (clearedVram s).read a = if a < totalLen s then some 0#8 else s.vram.read a := by
  rw [clearedVram, Memory.read_writeRange, zeroCells_length, Nat.zero_add]
  by_cases h : a < totalLen s
  · rw [if_pos ⟨Nat.zero_le a, h⟩, if_pos h, Nat.sub_zero, zeroCells_getElem? 8 _ a h]
    rfl
  · rw [if_neg fun h' => h h'.2, if_neg h]

/-- The bytes outside every subtile's slot are as VCLR leaves them (R192). -/
theorem read_imageVram_outside {a : Nat}
    (h : ∀ tx ty, inGrid tx ty s → a < tileOffset tx ty s ∨ tileOffset tx ty s + bpt s ≤ a) :
    (imageVram s).read a = if a < totalLen s then some 0#8 else s.vram.read a :=
  (read_foldl_storeSubtile_outside (subtiles s) (clearedVram s) fun p hp =>
    h p.1 p.2 ((mem_subtiles s p).mp hp)).trans (read_clearedVram s a)

/-- After CVTIMG every byte of a subtile's slot is the packed byte of its row and plane (R163, R192). -/
theorem packedByte_imageVram {tx ty p row k : Nat} (hz : LegalTileSize s) (hg : geometryOk s)
    (hin : inGrid tx ty s) (hp : p < bppEff s / 2) (hr : row < 8) (hk : k < 2) :
    PackedByte ((imageVram s).read (tileOffset tx ty s + (16 * p + 2 * row + k)))
      (fun col => s.pix.read ((8 * ty + row) * s.width.toNat + 8 * tx + col)) (2 * p + k) := by
  have hoff : 16 * p + 2 * row + k < bpt s := by unfold bpt; omega
  rw [read_imageVram hz hg hin hoff]
  refine packedByte_encodeTile hp hr hk fun col hc => ?_
  rw [tileOf_extract tx ty row col hr hc, Nat.add_assoc _ (8 * tx)]

/-- Settles O44: the slots of the subtiles, the rest of the image, and what lies beyond it. -/
theorem cvtimgConvertsTheImage : Obligations.CvtimgConvertsTheImage := by
  intro s hz hb hg hpix width bytes length hfit
  have hlen : totalLen s = length := totalLen_eq_lengthOf s
  have hoff (tx ty : Nat) : tileOffset tx ty s = slotOf width s.tilesz.toNat tx ty * bytes :=
    tileOffset_eq_slotOf tx ty s
  simp only [← hoff, ← hlen] at hfit ⊢
  refine ⟨s.imaged, exec_cvtimg_fits hb hg hpix hfit, rfl,
    fun tx ty p row k hx hy hp hr hk => packedByte_imageVram hz hg ⟨hx, hy⟩ hp hr hk,
    fun a ha hout => ?_, fun a ha => ?_⟩
  · exact (read_imageVram_outside fun tx ty hin => hout tx ty hin.1 hin.2).trans (if_pos ha)
  · refine (read_imageVram_outside fun tx ty hin => .inr ?_).trans (if_neg ha.not_gt)
    exact (tileOffset_add_bpt_le_totalLen hz hg hin).trans ha

end Sys2Proof.Machine

namespace Sys2Proof.Machine

open Sys2Proof.Claims

variable {s t : State}

/-! ### Which slots of the image are subtiles' -/

theorem not_mode8_of_16 (h : s.tilesz = 16#5) : ¬ mode8 s := by
  unfold mode8
  rw [h]
  decide

/-- The number of the metatile that a slot of 16×16 mode is a quarter of (R183). -/
def slotMetatile (k : Nat) : Nat := 8 * (k / 32) + k % 16 / 2

theorem slotMetatile_index16 (tx ty : Nat) (s : State) :
    slotMetatile (index16 tx ty s) = metatileNumber tx ty s := by
  unfold slotMetatile index16 metatileBase
  omega

/-- A slot is the quarter of its metatile that its bits 0 and 4 say. -/
theorem slot_eq_metatileBase_add (k : Nat) :
    metatileBase (slotMetatile k) + k % 2 + 16 * (k / 16 % 2) = k := by
  unfold slotMetatile metatileBase
  omega

/-- The padding slots are the slots of metatiles the image does not have (R185). -/
theorem paddingSlot_iff {width height k : Nat}
    (hk : k < 32 * ceil8 (width / 16 * (height / 16))) :
    PaddingSlot width height k ↔ width / 16 * (height / 16) ≤ slotMetatile k := by
  unfold PaddingSlot slotMetatile
  unfold ceil8 at hk
  generalize width / 16 * (height / 16) = count at hk ⊢
  constructor
  · rintro ⟨hr, j, hlo, hhi, hj⟩
    omega
  · intro hm
    exact ⟨by omega, k % 16, by omega, by omega, by omega⟩

/-- Every slot of a metatile of the image is a subtile's. -/
theorem exists_index16_eq {k : Nat}
    (hk : slotMetatile k < horizontalMetatiles s * verticalMetatiles s) :
    ∃ tx ty, inGrid tx ty s ∧ index16 tx ty s = k := by
  have hpos : 0 < horizontalMetatiles s := Nat.pos_of_mul_pos_right (Nat.zero_lt_of_lt hk)
  have hx := Nat.mod_lt (slotMetatile k) hpos
  have hy := Nat.div_lt_of_lt_mul hk
  refine ⟨2 * (slotMetatile k % horizontalMetatiles s) + k % 2,
    2 * (slotMetatile k / horizontalMetatiles s) + k / 16 % 2, ?_, ?_⟩
  · unfold horizontalMetatiles verticalMetatiles at *
    unfold inGrid horizontalTiles verticalTiles
    omega
  · have hm : metatileNumber (2 * (slotMetatile k % horizontalMetatiles s) + k % 2)
        (2 * (slotMetatile k / horizontalMetatiles s) + k / 16 % 2) s = slotMetatile k := by
      have hcol (a b : Nat) : (2 * a + b % 2) / 2 = a := by omega
      rw [metatileNumber, hcol, hcol, Nat.mul_comm]
      exact Nat.div_add_mod _ _
    have hslot := slot_eq_metatileBase_add k
    rw [index16, hm]
    omega

/-- In 8×8 mode every slot of the image is a subtile's (R181, R185). -/
theorem exists_index8_eq {k : Nat} (hk : k < horizontalTiles s * verticalTiles s) :
    ∃ tx ty, inGrid tx ty s ∧ index8 tx ty s = k := by
  have hpos : 0 < horizontalTiles s := Nat.pos_of_mul_pos_right (Nat.zero_lt_of_lt hk)
  refine ⟨k % horizontalTiles s, k / horizontalTiles s,
    ⟨Nat.mod_lt k hpos, Nat.div_lt_of_lt_mul hk⟩, ?_⟩
  rw [index8, Nat.mul_comm]
  exact Nat.div_add_mod k _

/-- In 16×16 mode the slots of the image's metatiles, and no others, are subtiles' (R183). -/
theorem exists_tileIndex_eq_iff {k : Nat} (hz : s.tilesz = 16#5) (hg : geometryOk s) :
    (∃ tx ty, inGrid tx ty s ∧ tileIndex tx ty s = k) ↔
      slotMetatile k < horizontalMetatiles s * verticalMetatiles s := by
  simp only [tileIndex_mode16 (not_mode8_of_16 hz)]
  constructor
  · rintro ⟨tx, ty, hin, rfl⟩
    obtain ⟨hx, hy⟩ := metatile_in_grid hz hg hin
    rw [slotMetatile_index16]
    exact raster_lt hx hy
  · exact exists_index16_eq

theorem exists_inGrid_iff {P : Nat → Nat → Prop} :
    (∃ tx ty, tx < s.width.toNat / 8 ∧ ty < s.height.toNat / 8 ∧ P tx ty) ↔
      ∃ tx ty, inGrid tx ty s ∧ P tx ty := by
  simp only [inGrid, horizontalTiles, verticalTiles, and_assoc]

/-- Settles O36: raster order in 8×8 mode; in 16×16 mode a slot belongs to one metatile, which the image has
or has not. -/
theorem layoutIsDisjointAndCovers : Obligations.LayoutIsDisjointAndCovers := by
  intro s hz hg ht vt
  refine ⟨fun tx ty tx' ty' hx hy hx' hy' => tileIndex_injective hz hg ⟨hx, hy⟩ ⟨hx', hy'⟩,
    fun tx ty hx hy => tileIndex_lt_totalSlots hz hg ⟨hx, hy⟩, fun h8 k hk => ?_, fun h16 k hk => ?_⟩
  · rw [totalSlots, if_pos h8] at hk
    simp only [tileIndex_mode8 h8]
    exact exists_inGrid_iff.mpr (exists_index8_eq hk)
  · rw [totalSlots, if_neg (not_mode8_of_16 h16)] at hk
    rw [exists_inGrid_iff, exists_tileIndex_eq_iff h16 hg, paddingSlot_iff hk]
    exact Nat.not_le.symm

/-- A quarter of metatile `(mx, my)` lies at the metatile's base plus what the low bits of its coordinates
give (R183). -/
theorem tileIndex_of_quarter {tx ty mx my : Nat} (h16 : s.tilesz = 16#5) (hx : tx / 2 = mx)
    (hy : ty / 2 = my) :
    tileIndex tx ty s = metatileBase (my * (s.width.toNat / 16) + mx) + tx % 2 + 16 * (ty % 2) := by
  subst hx hy
  exact tileIndex_mode16 (not_mode8_of_16 h16) tx ty

/-- Settles O37: the coordinates of a metatile's quarters halve to the metatile's own. -/
theorem metatilesMeetThePlacementInvariants : Obligations.MetatilesMeetThePlacementInvariants := by
  intro s h16
  refine ⟨?_, fun m hm => ?_, fun g => ?_⟩
  · intro mx my n
    refine ⟨?_, ?_, ?_, ?_⟩ <;>
    · rw [tileIndex_of_quarter h16 (by omega : _ = mx) (by omega : _ = my)]
      omega
  · unfold metatileBase
    omega
  · unfold metatileBase
    omega

/-! ### Bounds, and the two modes compared -/

/-- The counts of R186, which no 15-bit side exceeds. -/
theorem tile_counts_le (s : State) :
    s.width.toNat / 8 ≤ 4095 ∧ s.height.toNat / 8 ≤ 4095 ∧ s.width.toNat / 16 ≤ 2047 ∧
      s.height.toNat / 16 ≤ 2047 := by
  have hw := s.width.isLt
  have hh := s.height.isLt
  omega

theorem metatiles_le (s : State) : s.width.toNat / 16 * (s.height.toNat / 16) ≤ 4190209 := by
  obtain ⟨-, -, hm, hv⟩ := tile_counts_le s
  exact Nat.mul_le_mul hm hv

theorem totalSlots_le_of_16 (h : s.tilesz = 16#5) : totalSlots s ≤ 16760864 := by
  have hcount := metatiles_le s
  rw [totalSlots, if_neg (not_mode8_of_16 h)]
  unfold ceil8 horizontalMetatiles verticalMetatiles
  omega

/-- A bound on the slots bounds the length, at no more than 64 bytes a tile (R34, R185). -/
theorem totalLen_le_of_totalSlots_le {n : Nat} (hb : legalBpp (bppEff s)) (h : totalSlots s ≤ n) :
    totalLen s ≤ n * 64 := Nat.mul_le_mul h (bpt_le hb)

/-- Settles O38: the factors are bounded, and so are the products. -/
theorem offsetsAndLengthsFit : Obligations.OffsetsAndLengthsFit := by
  refine ⟨fun s => ?_, fun s hz hb hg => ⟨fun _ => ?_, fun h16 => ?_, fun tx ty hin => ?_, totalLen_lt hb⟩⟩
  · obtain ⟨hht, hvt, hhm, hvm⟩ := tile_counts_le s
    exact ⟨hht, hvt, hhm, hvm,
      Nat.mul_le_mul (Nat.le_of_lt_succ s.width.isLt) (Nat.le_of_lt_succ s.height.isLt)⟩
  · exact ⟨totalSlots_le s, totalLen_le_of_totalSlots_le hb (totalSlots_le s)⟩
  · have hcount := metatiles_le s
    exact ⟨hcount, by unfold ceil8; omega, totalSlots_le_of_16 h16,
      totalLen_le_of_totalSlots_le hb (totalSlots_le_of_16 h16)⟩
  · exact ⟨tileIndex_lt_totalSlots hz hg hin, tileOffset_add_bpt_le_totalLen hz hg hin⟩

/-- At width 128 a row holds 16 subtiles (R194 b). -/
theorem tileIndex_mode8_of_width128 {tx ty : Nat} (hw : s.width.toNat = 128) (h8 : s.tilesz = 8#5) :
    tileIndex tx ty s = 16 * ty + tx := by
  rw [tileIndex_mode8 h8, index8, horizontalTiles, hw, Nat.mul_comm]

/-- At width 128 a group of eight metatiles is a row of metatiles, so it holds two rows of subtiles (R194 b). -/
theorem tileIndex_mode16_of_width128 {tx ty : Nat} (hw : s.width.toNat = 128) (h16 : s.tilesz = 16#5)
    (hx : tx < 16) : tileIndex tx ty s = 16 * ty + tx := by
  rw [tileIndex_mode16 (not_mode8_of_16 h16), index16, metatileNumber, horizontalMetatiles, hw]
  unfold metatileBase
  omega

theorem totalSlots_eq_of_width128 (hw : s.width.toNat = 128) (hw' : t.width.toNat = 128)
    (hh : s.height = t.height) (h8 : s.tilesz = 8#5) (h16 : t.tilesz = 16#5) (hg : geometryOk t) :
    totalSlots s = totalSlots t := by
  obtain ⟨-, hrows⟩ := hg
  have hz : t.tilesz.toNat = 16 := by rw [h16]; rfl
  rw [hz] at hrows
  rw [totalSlots, if_pos h8, totalSlots, if_neg (not_mode8_of_16 h16)]
  unfold horizontalTiles verticalTiles horizontalMetatiles verticalMetatiles ceil8
  rw [hw, hw', hh]
  omega

/-- Settles O39: both indices computed at width 128; and the index does not mention the bitplane count. -/
theorem modesAgreeAtWidth128 : Obligations.ModesAgreeAtWidth128 := by
  refine ⟨fun s s' hw hw' hh h8 h16 hg hg' hb => ⟨fun tx ty hin => ?_, ?_⟩, fun s s' hz hw hh => ?_,
    fun s tx ty => ⟨rfl, rfl⟩⟩
  · obtain ⟨hx, -⟩ := hin
    rw [horizontalTiles, hw] at hx
    exact ⟨tileIndex_mode8_of_width128 hw h8, tileIndex_mode16_of_width128 hw' h16 hx⟩
  · rw [totalLen, totalLen, totalSlots_eq_of_width128 hw hw' hh h8 h16 hg', bpt, bpt, hb]
  · have hindex := tileIndex_congr hz hw
    have hslots := totalSlots_congr hz hw hh
    refine ⟨fun tx ty => ⟨hindex tx ty, ?_⟩, hslots, ?_⟩
    · rw [tileOffset, tileOffset, hindex]
      exact Nat.mul_right_comm _ _ _
    · rw [totalLen, totalLen, hslots]
      exact Nat.mul_right_comm _ _ _

/-! ### TADDR, TSTORE, VLEN, VCLR and the errors of CVTIMG -/

/-- An illegal bitplane count is the first error of all five commands (R33, R232). -/
theorem raisesBadBpp_requireBpp (k : Result) (hb : ¬ legalBpp (bppEff s)) :
    RaisesBadBpp (requireBpp s k) s := raises_of_raised (requireBpp_illegal hb)

/-- A ragged image is the second error of VLEN, VCLR and CVTIMG (R190, R224). -/
theorem raises_ragged (k : Result) (hb : legalBpp (bppEff s)) (hg : ¬ geometryOk s) :
    Raises (requireBpp s (requireGeometry s k)) s 2#4 (BitVec.ofNat 32 s.width.toNat)
      (BitVec.ofNat 32 s.height.toNat) := by
  rw [← setWidth_eq_ofNat, ← setWidth_eq_ofNat]
  exact raises_of_raised ((requireBpp_legal hb).trans (requireGeometry_ragged hg))

theorem exec_taddr_outOfBounds {tx ty : BitVec 14} (hb : legalBpp (bppEff s))
    (h : ¬ (geometryOk s ∧ inGrid tx.toNat ty.toNat s)) :
    exec (.taddr tx ty) s = .next (s.raised .outOfBounds (tx.setWidth 32) (ty.setWidth 32)) :=
  (requireBpp_legal hb).trans (if_neg h)

/-- Settles O40: the two tests, and the offset in the terms of R181 and R183. -/
theorem taddrComputesTheOffset : Obligations.TaddrComputesTheOffset := by
  intro tx ty s inside offset
  refine ⟨encodeT_toNat 9#4 tx ty, raisesBadBpp_requireBpp _, fun hb hout => ?_, fun hb hin => ?_⟩
  · rw [← setWidth_eq_ofNat 32 tx, ← setWidth_eq_ofNat 32 ty]
    exact raises_of_raised (exec_taddr_outOfBounds hb hout)
  · obtain ⟨hg, hgrid⟩ := hin
    have hoff : tileOffset tx.toNat ty.toNat s = offset := tileOffset_eq_slotOf _ _ s
    rw [exec_taddr_inGrid hb hg hgrid, hoff]
    exact ⟨_, rfl, rfl⟩

/-- A tile stored at `a` shows ETILE in its own bytes and leaves the others (R189). -/
theorem read_storedTile (a : Nat) (x : Nat) :
    (s.vram.writeRange a (encodedCells s)).read x =
      if a ≤ x ∧ x < a + 8 * bppEff s then s.etile.read (x - a) else s.vram.read x := by
  rw [Memory.read_writeRange, encodedCells_length, bpt]
  split
  next hx =>
    have hlt : x - a < 8 * bppEff s := by omega
    simp [encodedCells, bpt, hlt]
  next => rfl

/-- Settles O41: the three tests, and the copy of ETILE. -/
theorem tstoreWritesTheTile : Obligations.TstoreWritesTheTile := by
  refine ⟨rfl, fun s => ⟨raisesBadBpp_requireBpp _,
    fun hb hf => raisesNotReady_of_raised (exec_tstore_notReady hb hf),
    fun a ha hb hev hav => ⟨fun hover => ?_, fun hfit => ?_⟩⟩⟩
  · have hstore : storeAddress s = a := by rw [storeAddress, ha]; rfl
    subst hstore
    exact raises_of_raised ((requireBpp_legal hb).trans
      ((if_pos ⟨hev, hav⟩).trans (requireCapacity_over hover)))
  · exact ⟨_, exec_tstore_ready ha rfl rfl hb hev hav hfit, rfl, read_storedTile _⟩

/-- Settles O42: the two tests, and the length in the terms of R185. -/
theorem vlenComputesTheLength : Obligations.VlenComputesTheLength := by
  refine ⟨rfl, ?_⟩
  intro s length
  have hlen : totalLen s = length := totalLen_eq_lengthOf s
  refine ⟨raisesBadBpp_requireBpp _, raises_ragged _, fun hb hg => ?_⟩
  rw [exec_of_accepts (i := .vlen) ⟨hb, hg⟩, State.effect, State.successData, hlen]
  exact ⟨_, rfl, rfl⟩

/-- Settles O43: the three tests, and VRAM cleared below the length. -/
theorem vclrZeroesTheImage : Obligations.VclrZeroesTheImage := by
  refine ⟨rfl, ?_⟩
  intro s length
  have hlen : totalLen s = length := totalLen_eq_lengthOf s
  refine ⟨raisesBadBpp_requireBpp _, raises_ragged _, fun hb hg hover => ?_, fun hb hg hfit => ?_⟩
  · rw [← hlen] at hover ⊢
    exact raises_of_raised ((requireBpp_legal hb).trans
      ((requireGeometry_ok hg).trans (requireCapacity_over hover)))
  · rw [← hlen] at hfit ⊢
    exact ⟨_, exec_vclr_fits hb hg hfit, rfl, read_clearedVram s⟩

/-- Settles O45: the four tests, one after the other. -/
theorem cvtimgRaisesInOrder : Obligations.CvtimgRaisesInOrder := by
  refine ⟨rfl, ?_⟩
  intro s cells length
  have hlen : totalLen s = length := totalLen_eq_lengthOf s
  refine ⟨raisesBadBpp_requireBpp _, raises_ragged _, fun hb hg hover => ?_, fun hb hg hpix hover => ?_⟩
  · exact raises_of_raised ((requireBpp_legal hb).trans
      ((requireGeometry_ok hg).trans (requireCapacity_over hover)))
  · rw [← hlen] at hover ⊢
    exact raises_of_raised ((requireBpp_legal hb).trans ((requireGeometry_ok hg).trans
      ((requireCapacity_fits hpix).trans (requireCapacity_over hover))))

end Sys2Proof.Machine

namespace Sys2Proof.Machine

open Sys2Proof.Claims

variable {s t u : State}

/-! ### No event reads the events behind it -/

/-- The state with other events still to come. -/
abbrev State.withPort (s : State) (port : List HostEvent) : State := { s with port := port }

/-- The result with other events still to come in its state. -/
def Result.withPort (r : Result) (port : List HostEvent) : Result :=
  match r with
  | .next t => .next (t.withPort port)
  | .fault e => .fault e
  | .refused e => .refused e

theorem ite_withPort {c : Prop} [Decidable c] {k l k' l' : Result} {port : List HostEvent}
    (hk : k' = Result.withPort k port) (hl : l' = Result.withPort l port) :
    (if c then k' else l') = Result.withPort (if c then k else l) port := by
  split
  · exact hk
  · exact hl

theorem settleFlags_writeReg_withPort (reg : BitVec 4) (imm : BitVec 24) (s : State)
    (port : List HostEvent) :
    settleFlags reg (writeReg reg imm (s.withPort port)) =
      (settleFlags reg (writeReg reg imm s)).withPort port := by
  have hwrite : writeReg reg imm (s.withPort port) = (writeReg reg imm s).withPort port := by
    unfold writeReg
    split <;> rfl
  rw [hwrite, settleFlags, settleFlags]
  split <;> rfl

/-- A command does the same whatever the host presents after it (R11, R74). -/
theorem exec_withPort (i : Instr) (s : State) (port : List HostEvent) :
    exec i (s.withPort port) = Result.withPort (exec i s) port := by
  cases i with
  | nop | rdreg reg | clrst | reset | cvtcol r g b => rfl
  | setcfg reg imm =>
    refine ite_withPort (ite_withPort ?_ rfl) rfl
    rw [settleFlags_writeReg_withPort]
    rfl
  | cvtpal => exact ite_withPort rfl (ite_withPort rfl rfl)
  | tload tx ty => exact ite_withPort (ite_withPort rfl rfl) rfl
  | tenc => exact ite_withPort (ite_withPort rfl rfl) rfl
  | taddr tx ty => exact ite_withPort (ite_withPort rfl rfl) rfl
  | tstore => exact ite_withPort (ite_withPort (ite_withPort rfl rfl) rfl) rfl
  | vlen => exact ite_withPort (ite_withPort rfl rfl) rfl
  | vclr => exact ite_withPort (ite_withPort (ite_withPort rfl rfl) rfl) rfl
  | cvtimg => exact ite_withPort (ite_withPort (ite_withPort (ite_withPort rfl rfl) rfl) rfl) rfl

theorem execute_withPort (w : Word) (s : State) (port : List HostEvent) :
    execute w (s.withPort port) = Result.withPort (execute w s) port := by
  unfold execute
  cases decode w with
  | ok i => exact ite_withPort rfl (exec_withPort i s port)
  | error e => exact ite_withPort rfl rfl

theorem hostWrite_withPort (space : BitVec 4) (addr : Word) (value : Nat) (s : State)
    (port : List HostEvent) :
    hostWrite space addr value (s.withPort port) = Result.withPort (hostWrite space addr value s) port := by
  unfold hostWrite
  refine ite_withPort ?_ rfl
  split
  · exact ite_withPort rfl rfl
  · exact ite_withPort rfl rfl
  · rfl

/-- An event does the same whatever the host presents after it (R74). -/
theorem handleEvent_withPort {e : HostEvent} (h : handleEvent e s = .next t) (port : List HostEvent) :
    handleEvent e (s.withPort port) = .next (t.withPort port) := by
  have hframe : handleEvent e (s.withPort port) = Result.withPort (handleEvent e s) port := by
    cases e with
    | command w => exact execute_withPort w s port
    | hostRead space addr => exact ite_withPort rfl rfl
    | hostWrite space addr value => exact hostWrite_withPort space addr value s port
    | powerOn => rfl
  rw [hframe, h]
  rfl

/-! ### Runs with only OK responses -/

/-- The last response, if there is one, had status 0 (R260). -/
def State.RespondedOk (s : State) : Prop := ∀ r, s.response = some r → r.status = 0#4

theorem step_answers (s : State) : ∃ t, step s = .next t := by
  cases hp : s.port with
  | nil => exact ⟨s, step_idle hp⟩
  | cons e rest =>
    obtain ⟨t, ht, -⟩ := (stepTakesOneEvent s).2 e rest hp
    exact ⟨t, ht⟩

theorem responsesOk_zero : ResponsesOk 0 s ↔ s.RespondedOk := by
  refine ⟨fun h r hr => h 0 (Nat.le_refl 0) s r rfl hr, fun h j hj t r ht hr => ?_⟩
  obtain rfl := Nat.le_zero.mp hj
  injection ht with ht
  exact h r (ht ▸ hr)

theorem responsesOk_mono {j k : Nat} (h : ResponsesOk k s) (hjk : j ≤ k) : ResponsesOk j s :=
  fun i hi => h i (hi.trans hjk)

theorem responsesOk_start {k : Nat} (h : ResponsesOk k s) : s.RespondedOk :=
  responsesOk_zero.mp (responsesOk_mono h (Nat.zero_le k))

/-- The responses along a run are those up to a point and those from there on. -/
theorem responsesOk_add {j k : Nat} (h : core.run j s = .next t) :
    ResponsesOk (j + k) s ↔ ResponsesOk j s ∧ ResponsesOk k t := by
  constructor
  · exact fun hok => ⟨responsesOk_mono hok (Nat.le_add_right j k),
      fun i hi v r hv => hok (j + i) (by omega) v r ((run_add j i h).trans hv)⟩
  · rintro ⟨hfirst, hlast⟩ i hi v r hv hr
    by_cases hij : i ≤ j
    · exact hfirst i hij v r hv hr
    · obtain ⟨d, rfl⟩ := Nat.exists_eq_add_of_le (Nat.le_of_not_le hij)
      exact hlast d (by omega) v r ((run_add j d h).symm.trans hv) hr

theorem run_one (h : step s = .next t) : core.run 1 s = .next t := run_succ_of_step 0 h

theorem responsesOk_succ {k : Nat} (h : step s = .next t) :
    ResponsesOk (k + 1) s ↔ s.RespondedOk ∧ ResponsesOk k t := by
  rw [Nat.add_comm, responsesOk_add (run_one h)]
  refine ⟨fun ⟨h1, hk⟩ => ⟨responsesOk_start h1, hk⟩,
    fun ⟨h0, hk⟩ => ⟨fun i hi v r hv hr => ?_, hk⟩⟩
  interval_cases i
  · exact responsesOk_zero.mpr h0 0 (Nat.le_refl 0) v r hv hr
  · exact hk 0 (Nat.zero_le k) v r ((run_one h).symm.trans hv) hr

/-- What holds at the start of a run and is kept by every step that ends in an OK response holds at the end of
a run with only such responses. -/
theorem run_induction {P : State → Prop}
    (hstep : ∀ s t, P s → step s = .next t → t.RespondedOk → P t) {k : Nat} (hs : P s)
    (hok : ResponsesOk k s) (h : core.run k s = .next t) : P t := by
  induction k generalizing s with
  | zero => injection h with h; exact h ▸ hs
  | succ k ih =>
    obtain ⟨u, hu⟩ := step_answers s
    obtain ⟨-, hrest⟩ := (responsesOk_succ hu).mp hok
    rw [run_succ_of_step k hu] at h
    exact ih (hstep s u hs hu (responsesOk_start hrest)) hrest h

/-! ### A run with only OK responses is never halted -/

/-- Error entry answers with a code that is not 0 (R221, R226). -/
theorem not_respondedOk_raised (e : ErrorKind) (info0 info1 : Word) :
    ¬ (s.raised e info0 info1).RespondedOk :=
  fun h => code_ne_zero e (h _ rfl)

/-- An accepted command keeps ERR or clears it. -/
theorem effect_running (i : Instr) (h : ¬ s.halted) : ¬ (s.effect i).halted := by
  cases i with
  | setcfg reg imm =>
    rcases Nat.lt_or_ge 4 reg.toNat with hr | hr
    · rw [effect_setcfg_palette hr]
      exact h
    · rw [effect_setcfg_geometry hr]
      exact h
  | clrst | reset => exact fun hh => hh rfl
  | _ => exact h

theorem execute_running {w : Word} (hs : ¬ s.halted) (h : execute w s = .next t)
    (hok : t.RespondedOk) : ¬ t.halted := by
  rcases execute_cases h with ⟨i, -, -, h⟩ | ⟨hh, -, -⟩ | ⟨-, -, rfl⟩
  · rcases exec_outcome h with ⟨e, info0, info1, rfl⟩ | ⟨-, data, rfl⟩
    · exact absurd hok (not_respondedOk_raised e info0 info1)
    · exact effect_running (s := s) i hs
  · exact absurd hh hs
  · exact absurd hok (not_respondedOk_raised _ _ _)

theorem step_running (hs : ¬ s.halted) (h : step s = .next t) (hok : t.RespondedOk) : ¬ t.halted := by
  cases hp : s.port with
  | nil => rw [step_idle hp] at h; injection h with h; exact h ▸ hs
  | cons e rest =>
    rw [step_event hp] at h
    cases e with
    | command w => exact execute_running (s := s.withPort rest) hs h hok
    | hostRead space addr => rcases hostRead_cases h with ⟨-, rfl⟩ | ⟨-, rfl⟩ <;> exact hs
    | hostWrite space addr value =>
      rcases hostWrite_cases h with ⟨-, -, -, rfl⟩ | ⟨-, -, -, rfl⟩ | rfl <;> exact hs
    | powerOn => injection h with h; exact h ▸ fun hh => hh rfl

/-- Either reset leaves the invariant and no error (R251). -/
theorem State.AfterReset.inv_running (h : s.AfterReset) : s.Inv ∧ ¬ s.halted := by
  obtain ⟨u, hu, rfl | rfl⟩ := h
  · exact ⟨hu.powerOnReset, fun hh => hh rfl⟩
  · exact ⟨hu.softReset.respond (.inl rfl) _, fun hh => hh rfl⟩

/-- So does a run from a reset with only OK responses (R260). -/
theorem Run.inv_running {r : Run} (hr : r.Legal) (hok : ResponsesOk r.events.length r.initial)
    (h : r.result = .next s) : s.Inv ∧ ¬ s.halted := by
  obtain ⟨hinv, hrun⟩ := hr.1.inv_running
  exact run_induction (s := r.initial) (P := fun s => s.Inv ∧ ¬ s.halted)
    (fun s t ⟨hi, hn⟩ hst hrok => ⟨stepKeepsTheInvariant s t hi hst, step_running hn hst hrok⟩)
    ⟨hinv.withPort _, hrun⟩ hok h

/-! ### Stretches of a run -/

/-- `k` steps with only OK responses lead from the state `s` with record `l` to the state `t` with record
`l'`. -/
structure Stretch (k : Nat) (s : State) (l : RunRecord) (t : State) (l' : RunRecord) : Prop where
  run : core.run k s = .next t
  record : RunRecord.after k s l = l'
  ok : ResponsesOk k s

section Stretches

variable {j k : Nat} {l l' l'' : RunRecord} {rest : List HostEvent}

theorem Stretch.refl (h : s.RespondedOk) : Stretch 0 s l s l := ⟨rfl, rfl, responsesOk_zero.mpr h⟩

theorem Stretch.step (hok : s.RespondedOk) (hs : Machine.step s = .next u)
    (h : Stretch k u (l.step s u) t l') : Stretch (k + 1) s l t l' :=
  ⟨(run_succ_of_step k hs).trans h.run, (record_succ_of_step k hs).trans h.record,
    (responsesOk_succ hs).mpr ⟨hok, h.ok⟩⟩

theorem Stretch.trans (h : Stretch j s l t l') (h' : Stretch k t l' u l'') :
    Stretch (j + k) s l u l'' := by
  obtain ⟨hrun, rfl, hok⟩ := h
  exact ⟨(run_add j k hrun).trans h'.run, (record_add j k hrun).trans h'.record,
    (responsesOk_add hrun).mpr ⟨hok, h'.ok⟩⟩

theorem Stretch.end_ok (h : Stretch k s l t l') : t.RespondedOk :=
  responsesOk_zero.mp ((responsesOk_add (k := 0) h.run).mp h.ok).2

/-- The responses of a longer stretch go on OK from where a shorter one ends. -/
theorem Stretch.rest_ok (h : Stretch j s l t l') (hok : ResponsesOk (j + k) s) : ResponsesOk k t :=
  ((responsesOk_add h.run).mp hok).2

/-- A run is the first part of the run with more events, whatever these are. -/
theorem Stretch.of_more_events {events : List HostEvent} (more : List HostEvent)
    (hp : s.port = events) (hok : ResponsesOk events.length s)
    (h : core.run events.length s = .next t) (l : RunRecord) :
    ∃ l', Stretch events.length (s.withPort (events ++ more)) l (t.withPort more) l' := by
  induction events generalizing s l with
  | nil =>
    injection h with h
    subst h
    have hend : s.RespondedOk := responsesOk_zero.mp hok
    exact ⟨l, .refl hend⟩
  | cons e events ih =>
    obtain ⟨u, hu, hport⟩ := (stepTakesOneEvent s).2 e events hp
    obtain ⟨hsok, huok⟩ := (responsesOk_succ hu).mp hok
    obtain ⟨l', hrest⟩ := ih hport huok ((run_succ_of_step _ hu).symm.trans h) _
    rw [step_event hp] at hu
    exact ⟨l', .step hsok (handleEvent_withPort hu (events ++ more)) hrest⟩

/-- A command taken from the port that succeeds, and the record of it. -/
theorem Stretch.command {i : Instr} {data : Word} (hp : s.port = .command (encode i) :: rest)
    (hd : decode (encode i) = .ok i) (hrun : ¬ s.halted) (hok : s.RespondedOk)
    (h : exec i (s.withPort rest) = .next (t.respond 0#4 data)) :
    Stretch 1 s l (t.respond 0#4 data) (l.command i (t.respond 0#4 data)) := by
  have hstep : Machine.step s = .next (t.respond 0#4 data) :=
    (step_event hp).trans ((execute_runs (s := s.withPort rest) hd (.inl hrun)).trans h)
  have hend : (t.respond 0#4 data).RespondedOk := fun r hr => by injection hr with hr; exact hr ▸ rfl
  rw [← record_step_of_command (l := l) (succeededCommand_of hp hd rfl rfl)]
  exact .step hok hstep (.refl hend)

/-- TLOAD and TENC of a subtile (R162, R165). -/
theorem Stretch.tload_tenc {tx ty : BitVec 14} (hs : s.ConvertsTiles) (hin : inGrid tx.toNat ty.toNat s)
    (hok : s.RespondedOk) (hp : s.port = issue [.tload tx ty, .tenc] ++ rest) :
    Stretch 2 s l ((s.withPort rest).tileEncoded tx ty)
      { l with loaded := some (tx.toNat, ty.toNat), encoded := some (tx.toNat, ty.toNat) } := by
  have hload := Stretch.command (l := l) hp (decode_encode_tload tx ty) hs.running hok
    (exec_tload_inBounds (inBounds_of_inGrid hs.tilesz hs.geometry hin) hs.pix)
  exact hload.trans (.command (i := .tenc) rfl rfl hs.running hload.end_ok
    (exec_tenc_loaded hs.bpp rfl (encodeTile_loadedTile tx.toNat ty.toNat s)))

/-- TADDR of a subtile and TSTORE (R188, R189). -/
theorem Stretch.taddr_tstore {tx ty : BitVec 14} (hs : s.ConvertsTiles)
    (hin : inGrid tx.toNat ty.toNat s) (hev : s.status.ev = true) (hok : s.RespondedOk)
    (hp : s.port = issue [.taddr tx ty, .tstore] ++ rest) :
    Stretch 2 s l ((s.withPort rest).tileStored tx ty)
      { l with
        addressed := some (tx.toNat, ty.toNat)
        image := l.image.bind (ImageRecord.store s.tileConfig l.encoded (some (tx.toNat, ty.toNat))) } := by
  have haddr := Stretch.command (l := l) hp (decode_encode_taddr tx ty) hs.running hok
    (exec_taddr_inGrid hs.bpp hs.geometry hin)
  have hoff := toNat_toWord_tileOffset hs hin
  have hfit := (tileOffset_add_bpt_le_totalLen hs.tilesz hs.geometry hin).trans hs.vram
  exact haddr.trans (.command (i := .tstore) rfl rfl hs.running haddr.end_ok
    (exec_tstore_ready rfl hoff rfl hs.bpp hev rfl hfit))

/-- The record after a CVTTILE of `p` under `cfg`. -/
def RunRecord.tileConverted (p : Subtile) (cfg : TileConfig) (l : RunRecord) : RunRecord where
  loaded := some p
  encoded := some p
  addressed := some p
  image := l.image.bind (ImageRecord.store cfg (some p) (some p))

/-- The four steps of a CVTTILE (R100, R193). -/
theorem Stretch.cvttile {tx ty : BitVec 14} (hs : s.ConvertsTiles) (hin : inGrid tx.toNat ty.toNat s)
    (hok : s.RespondedOk) (hp : s.port = issue (cvttile tx ty) ++ rest) :
    Stretch 4 s l ((s.withPort rest).tileConverted tx ty)
      (l.tileConverted (tx.toNat, ty.toNat) s.tileConfig) := by
  have hload := Stretch.tload_tenc (l := l) hs hin hok hp
  exact hload.trans (.taddr_tstore (hs.congr rfl rfl rfl) hin rfl hload.end_ok rfl)

end Stretches

end Sys2Proof.Machine

namespace Sys2Proof.Machine

open Sys2Proof.Claims

variable {s t b : State} {l l' : RunRecord} {done : List Subtile} {rest : List HostEvent}

/-! ### What the image depends on -/

theorem totalLen_of_tileConfig (h : t.tileConfig = s.tileConfig) : totalLen t = totalLen s := by
  injection h with hbpp hsrc htilesz hwidth hheight
  rw [totalLen, totalLen, totalSlots_congr htilesz hwidth hheight, bpt_congr hbpp hsrc]

theorem inGrid_of_tileConfig (h : t.tileConfig = s.tileConfig) (tx ty : Nat) :
    inGrid tx ty t ↔ inGrid tx ty s := by
  injection h with hbpp hsrc htilesz hwidth hheight
  unfold inGrid horizontalTiles verticalTiles
  rw [hwidth, hheight]

/-- Storing a subtile depends on the configuration and on PIX. -/
theorem storeSubtile_of_tileConfig (h : t.tileConfig = s.tileConfig) (hpix : t.pix = s.pix) :
    storeSubtile t = storeSubtile s := by
  injection h with hbpp hsrc htilesz hwidth hheight
  funext vram p
  simp only [storeSubtile, tileOffset, subtileBytes, extract, pixelAddress, bppEff_congr hbpp hsrc,
    tileIndex_congr htilesz hwidth, bpt_congr hbpp hsrc, hwidth, hpix]

/-- The VramImage of a state: what CVTIMG there leaves in `VRAM[0 .. VLEN)` (R192, R260). -/
def State.vramImage (s : State) : List (Option Byte) := (List.range (totalLen s)).map (imageVram s).read

/-! ### The invariant of a run that produces an image -/

/-- The image of the state `b` is being produced, and the subtiles `done` have been converted: the state is
`t`, and the record of the run is `l`. -/
structure Producing (b : State) (done : List Subtile) (t : State) (l : RunRecord) : Prop where
  running : ¬ t.halted
  config : t.tileConfig = b.tileConfig
  params : t.params = b.params
  pix : t.pix = b.pix
  vram : t.vram = done.foldl (storeSubtile b) (clearedVram b)
  lv : t.status.lv = true
  vlen : t.vlen = some (toWord (totalLen b))
  image : ∃ m, l.image = some m ∧ m.config = b.tileConfig ∧ ∀ p ∈ done, p ∈ m.converted

namespace Producing

theorem convertsTiles (h : Producing b done t l) (hb : b.ConvertsTiles) : t.ConvertsTiles :=
  hb.congr ((not_not.mp h.running).trans (not_not.mp hb.running).symm) h.config h.params

/-- A CVTTILE converts one more subtile (R193). -/
theorem tileConverted {tx ty : BitVec 14} (h : Producing b done s l) :
    Producing b (done ++ [(tx.toNat, ty.toNat)]) ((s.withPort rest).tileConverted tx ty)
      (l.tileConverted (tx.toNat, ty.toNat) s.tileConfig) where
  running := h.running
  config := h.config
  params := h.params
  pix := h.pix
  vram := by
    rw [tileConverted_vram, List.foldl_append, ← h.vram]
    exact congrFun (congrFun (storeSubtile_of_tileConfig (t := s.withPort rest) h.config h.pix) s.vram) _
  lv := h.lv
  vlen := h.vlen
  image := by
    obtain ⟨m, hm, hconfig, hdone⟩ := h.image
    obtain ⟨m', hm'⟩ : ∃ m', ImageRecord.store s.tileConfig (some (tx.toNat, ty.toNat))
        (some (tx.toNat, ty.toNat)) m = some m' :=
      ⟨_, (if_pos (hconfig.trans h.config.symm)).trans (if_pos rfl)⟩
    have hstore (q : Subtile) := mem_store_same (q := q) hm'
    refine ⟨m', ?_, (hstore (0, 0)).1.trans hconfig, fun p hp => (hstore p).2.mpr ?_⟩
    · show l.image.bind _ = _
      rw [hm]
      exact hm'
    · rcases List.mem_append.mp hp with hp | hp
      · exact .inr (hdone p hp)
      · exact .inl (List.mem_singleton.mp hp)

/-- A successful command that writes neither VRAM nor the configuration leaves the image as it is. -/
theorem command {i : Instr} (h : Producing b done s l) (hreset : i ≠ .reset) (htstore : i ≠ .tstore)
    (hvclr : i ≠ .vclr) (hcvtimg : i ≠ .cvtimg)
    (hset : ∀ reg imm, i = .setcfg reg imm → 4 < reg.toNat) (data : Word) :
    Producing b done ((s.effect i).respond 0#4 data) (l.command i ((s.effect i).respond 0#4 data)) := by
  cases i with
  | reset => exact absurd rfl hreset
  | tstore => exact absurd rfl htstore
  | vclr => exact absurd rfl hvclr
  | cvtimg => exact absurd rfl hcvtimg
  | setcfg reg imm =>
    have hr := hset reg imm rfl
    rw [effect_setcfg_palette hr, RunRecord.command, if_neg (Nat.not_le.mpr hr)]
    exact { h with }
  | clrst => exact { h with running := fun hh => hh rfl }
  | vlen =>
    exact { h with lv := rfl, vlen := congrArg (fun n => some (toWord n)) (totalLen_of_tileConfig h.config) }
  | _ => exact { h with }

/-- So does a quiet event with an OK response. -/
theorem quiet_step {e : HostEvent} (h : Producing b done s l) (hp : s.port = e :: rest)
    (he : QuietEvent e) (hs : step s = .next t) (hok : t.RespondedOk) :
    Producing b done t (l.step s t) := by
  rw [step_event hp] at hs
  have h' : Producing b done (s.withPort rest) l := { h with }
  cases e with
  | command w =>
    obtain ⟨i, hd, hreset, htstore, hvclr, hcvtimg, hset⟩ := he
    have hexec := (execute_runs hd (.inl h'.running)).symm.trans hs
    obtain ⟨r, hr, -⟩ := execute_response hs
    have h0 := hok r hr
    rw [record_step_of_command (succeededCommand_of hp hd hr h0)]
    obtain ⟨-, rfl⟩ := exec_succeeded_eq hexec hr h0
    exact h'.command hreset htstore hvclr hcvtimg hset _
  | hostRead space addr =>
    rw [record_step_of_none (by rw [succeededCommand, hp])]
    rcases hostRead_cases hs with ⟨-, rfl⟩ | ⟨-, rfl⟩ <;> exact { h with }
  | hostWrite space addr value =>
    rw [record_step_of_none (by rw [succeededCommand, hp])]
    rcases hostWrite_cases hs with ⟨hpix, -, -, -⟩ | ⟨-, -, -, rfl⟩ | rfl
    · exact absurd hpix he
    · exact { h with }
    · exact { h with }
  | powerOn => exact he.elim

/-- And so do quiet events one after the other, when their responses are OK. -/
theorem quiet {es : List HostEvent} (h : Producing b done s l) (hp : s.port = es ++ rest)
    (hes : ∀ e ∈ es, QuietEvent e) (hok : ResponsesOk es.length s) :
    ∃ t l', Stretch es.length s l t l' ∧ t.port = rest ∧ Producing b done t l' := by
  induction es generalizing s l with
  | nil => exact ⟨s, l, .refl (responsesOk_zero.mp hok), hp, h⟩
  | cons e es ih =>
    obtain ⟨he, hes⟩ := List.forall_mem_cons.mp hes
    obtain ⟨u, hu, hport⟩ := (stepTakesOneEvent s).2 e (es ++ rest) hp
    obtain ⟨hsok, huok⟩ := (responsesOk_succ hu).mp hok
    have hu' := h.quiet_step hp he hu (responsesOk_start huok)
    obtain ⟨t, l', hrest, htp, ht⟩ := ih hu' hport hes huok
    exact ⟨t, l', .step hsok hu hrest, htp, ht⟩

end Producing

/-! ### How a production begins, goes on and ends -/

/-- The CVTTILE of a subtile (R100). -/
abbrev convertSubtile (p : Subtile) : List Instr := cvttile (BitVec.ofNat 14 p.1) (BitVec.ofNat 14 p.2)

/-- The coordinates of a subtile of the grid fit the operands of a command. -/
theorem toNat_coordinates {p : Subtile} (h : inGrid p.1 p.2 s) :
    (BitVec.ofNat 14 p.1).toNat = p.1 ∧ (BitVec.ofNat 14 p.2).toNat = p.2 := by
  obtain ⟨hx, hy⟩ := inGrid_lt h
  rw [BitVec.toNat_ofNat, BitVec.toNat_ofNat]
  omega

/-- CVTTILE of one subtile more. -/
theorem Producing.cvttile {p : Subtile} (h : Producing b done s l) (hb : b.ConvertsTiles)
    (hin : inGrid p.1 p.2 b) (hok : s.RespondedOk) (hp : s.port = issue (convertSubtile p) ++ rest) :
    ∃ t l', Stretch 4 s l t l' ∧ t.port = rest ∧ Producing b (done ++ [p]) t l' := by
  obtain ⟨hx, hy⟩ := toNat_coordinates hin
  have hin' := (inGrid_of_tileConfig h.config p.1 p.2).mpr hin
  have hconv := h.tileConverted (tx := BitVec.ofNat 14 p.1) (ty := BitVec.ofNat 14 p.2) (rest := rest)
  have hstretch := Stretch.cvttile (l := l) (h.convertsTiles hb) (by rwa [hx, hy]) hok hp
  rw [hx, hy] at hconv hstretch
  exact ⟨_, _, hstretch, rfl, hconv⟩

/-- CVTTILEs with quiet events before each. -/
theorem Producing.spaced {spaced : List (List HostEvent × Subtile)} (h : Producing b done s l)
    (hb : b.ConvertsTiles) (hin : ∀ p ∈ spaced.map Prod.snd, inGrid p.1 p.2 b)
    (hquiet : ∀ p ∈ spaced, ∀ e ∈ p.1, QuietEvent e)
    (hp : s.port = (spaced.flatMap fun p => p.1 ++ issue (convertSubtile p.2)) ++ rest)
    (hok : ResponsesOk (spaced.flatMap fun p => p.1 ++ issue (convertSubtile p.2)).length s) :
    ∃ t l', Stretch (spaced.flatMap fun p => p.1 ++ issue (convertSubtile p.2)).length s l t l' ∧
      t.port = rest ∧ Producing b (done ++ spaced.map Prod.snd) t l' := by
  induction spaced generalizing s l done with
  | nil => exact ⟨s, l, .refl (responsesOk_zero.mp hok), hp, by rwa [List.map_nil, List.append_nil]⟩
  | cons q spaced ih =>
    obtain ⟨hq, hin⟩ := List.forall_mem_cons.mp hin
    obtain ⟨hqq, hquiet⟩ := List.forall_mem_cons.mp hquiet
    simp only [List.flatMap_cons, List.append_assoc, List.length_append] at hp hok ⊢
    obtain ⟨t₁, l₁, hs₁, hp₁, h₁⟩ := h.quiet hp hqq (responsesOk_mono hok (Nat.le_add_right _ _))
    have hok₁ := hs₁.rest_ok hok
    obtain ⟨t₂, l₂, hs₂, hp₂, h₂⟩ := h₁.cvttile hb hq hs₁.end_ok hp₁
    obtain ⟨t₃, l₃, hs₃, hp₃, h₃⟩ := ih h₂ hin hquiet hp₂ (hs₂.rest_ok hok₁)
    refine ⟨t₃, l₃, hs₁.trans (hs₂.trans hs₃), hp₃, ?_⟩
    rwa [List.append_assoc] at h₃

/-- VCLR begins an image (R191). -/
theorem producing_vclr (hb : b.ConvertsTiles) (hok : b.RespondedOk) (rest : List HostEvent)
    (l : RunRecord) :
    ∃ t l', Stretch 1 (b.withPort (issue [.vclr] ++ rest)) l t l' ∧ t.port = rest ∧
      Producing b [] t l' :=
  ⟨_, _, .command rfl rfl hb.running hok (exec_vclr_fits hb.bpp hb.geometry hb.vram), rfl,
    { running := hb.running, config := rfl, params := rfl, pix := rfl, vram := rfl, lv := rfl, vlen := rfl
      image := ⟨_, rfl, rfl, nofun⟩ }⟩

/-- CVTIMG begins one with every subtile converted (R192). -/
theorem producing_cvtimg (hb : b.ConvertsTiles) (hok : b.RespondedOk) (l : RunRecord) :
    ∃ t l', Stretch 1 (b.withPort (issue [.cvtimg])) l t l' ∧ Producing b (subtiles b) t l' :=
  ⟨_, _, .command (rest := []) rfl rfl hb.running hok
      (exec_cvtimg_fits hb.bpp hb.geometry hb.pix hb.vram),
    { running := hb.running, config := rfl, params := rfl, pix := rfl, vram := rfl, lv := rfl, vlen := rfl
      image := ⟨_, rfl, rfl, fun _ hp => hp⟩ }⟩

/-- VCLR, CVTTILEs with quiet events before each, and quiet events at the end. -/
theorem producing_spacedTiles {spaced : List (List HostEvent × Subtile)} {last : List HostEvent}
    (hb : b.ConvertsTiles) (hin : ∀ p ∈ spaced.map Prod.snd, inGrid p.1 p.2 b)
    (hquiet : ∀ p ∈ spaced, ∀ e ∈ p.1, QuietEvent e) (hlast : ∀ e ∈ last, QuietEvent e)
    (hok : ResponsesOk (spacedTiles spaced ++ last).length (b.withPort (spacedTiles spaced ++ last)))
    (l : RunRecord) :
    ∃ t l', Stretch (spacedTiles spaced ++ last).length (b.withPort (spacedTiles spaced ++ last)) l t l' ∧
      Producing b (spaced.map Prod.snd) t l' := by
  have hbok := responsesOk_start hok
  unfold spacedTiles at hok ⊢
  simp only [List.append_assoc, List.length_append] at hok ⊢
  obtain ⟨t₁, l₁, hs₁, hp₁, h₁⟩ := producing_vclr hb hbok _ l
  have hok₁ := hs₁.rest_ok hok
  obtain ⟨t₂, l₂, hs₂, hp₂, h₂⟩ := h₁.spaced hb hin hquiet hp₁ (responsesOk_mono hok₁ (Nat.le_add_right _ _))
  obtain ⟨t₃, l₃, hs₃, -, h₃⟩ := h₂.quiet (rest := []) (by simpa using hp₂) hlast (hs₂.rest_ok hok₁)
  exact ⟨t₃, l₃, hs₁.trans (hs₂.trans hs₃), h₃⟩

/-- CVTTILEs of subtiles of the grid have OK responses (R193). -/
theorem responsesOk_cvttiles {order : List Subtile} (hs : s.ConvertsTiles)
    (hin : ∀ p ∈ order, inGrid p.1 p.2 s) (hok : s.RespondedOk)
    (hp : s.port = issue (order.flatMap convertSubtile)) :
    ResponsesOk (issue (order.flatMap convertSubtile)).length s := by
  induction order generalizing s with
  | nil => exact responsesOk_zero.mpr hok
  | cons p order ih =>
    obtain ⟨hpin, hin⟩ := List.forall_mem_cons.mp hin
    obtain ⟨hx, hy⟩ := toNat_coordinates hpin
    have hsplit : issue ((p :: order).flatMap convertSubtile) =
        issue (convertSubtile p) ++ issue (order.flatMap convertSubtile) := by
      rw [issue, List.flatMap_cons, List.map_append]
      rfl
    rw [hsplit] at hp
    have hfirst := Stretch.cvttile (l := .empty) hs (by rwa [hx, hy]) hok hp
    have hrest := ih (s := State.tileConverted _ _ (s.withPort (issue (order.flatMap convertSubtile))))
      (tileConverted_convertsTiles _ _ (hs.congr rfl rfl rfl)) hin hfirst.end_ok rfl
    rw [hsplit, List.length_append]
    exact (responsesOk_add hfirst.run).mpr ⟨hfirst.ok, hrest⟩

/-- Tile by tile, in any order, is the case without other events between the tiles. -/
theorem issue_tileByTile (order : List Subtile) :
    issue (tileByTile order) = spacedTiles (order.map fun p => ([], p)) ++ [] := by
  simp [issue, tileByTile, spacedTiles, List.flatMap_map, List.map_flatMap]

theorem responsesOk_tileByTile {order : List Subtile} (hb : b.ConvertsTiles)
    (hin : ∀ p ∈ order, inGrid p.1 p.2 b) (hok : b.RespondedOk) :
    ResponsesOk (issue (tileByTile order)).length (b.withPort (issue (tileByTile order))) := by
  obtain ⟨t, l', hs, hp, h⟩ := producing_vclr hb hok (issue (order.flatMap convertSubtile)) .empty
  have hrest := responsesOk_cvttiles (h.convertsTiles hb)
    (fun p hp => (inGrid_of_tileConfig h.config p.1 p.2).mpr (hin p hp)) hs.end_ok hp
  have hall := (responsesOk_add hs.run).mpr ⟨hs.ok, hrest⟩
  rwa [Nat.add_comm] at hall

/-- VCLR and the CVTTILEs of subtiles of the grid, one directly after the other (R192). -/
theorem producing_tileByTile {order : List Subtile} (hb : b.ConvertsTiles)
    (hin : ∀ p ∈ order, inGrid p.1 p.2 b) (hok : b.RespondedOk) (l : RunRecord) :
    ∃ t l', Stretch (issue (tileByTile order)).length (b.withPort (issue (tileByTile order))) l t l' ∧
      Producing b order t l' := by
  have hresponses := responsesOk_tileByTile hb hin hok
  have horder : (order.map fun p => (([] : List HostEvent), p)).map Prod.snd = order := by
    rw [List.map_map]
    exact List.map_id order
  have hempty (e : HostEvent) (he : e ∈ []) : QuietEvent e := absurd he List.not_mem_nil
  have hquiet : ∀ p ∈ order.map fun p => (([] : List HostEvent), p), ∀ e ∈ p.1, QuietEvent e := by
    rintro _ hp e he
    obtain ⟨q, -, rfl⟩ := List.mem_map.mp hp
    exact hempty e he
  rw [issue_tileByTile] at hresponses ⊢
  have h := producing_spacedTiles hb (by rwa [horder]) hquiet hempty hresponses l
  rwa [horder] at h

/-! ### Artifacts of a run that goes on -/

/-- The run goes on with more events. -/
abbrev Run.goesOn (r : Run) (more : List HostEvent) : Run := { r with events := r.events ++ more }

theorem Run.goesOn_legal {r : Run} {more : List HostEvent} (hr : r.Legal)
    (hmore : HostEvent.powerOn ∉ more) : (r.goesOn more).Legal :=
  ⟨hr.1, fun h => (List.mem_append.mp h).elim hr.2 hmore⟩

/-- What a stretch from the end of a run leads to, the run with the stretch's events leads to. -/
theorem Run.goesOn_stretch {r : Run} {more : List HostEvent} {P : State → RunRecord → Prop}
    (hok : ResponsesOk r.events.length r.initial) (hr : r.result = .next s)
    (h : ∀ l, ∃ t l', Stretch more.length (s.withPort more) l t l' ∧ P t l') :
    ∃ t l', Stretch (r.goesOn more).events.length (r.goesOn more).initial .empty t l' ∧ P t l' := by
  obtain ⟨l, hfirst⟩ := Stretch.of_more_events (s := r.initial) more rfl hok hr .empty
  obtain ⟨t, l', hlast, ht⟩ := h l
  rw [List.length_append]
  exact ⟨t, l', hfirst.trans hlast, ht⟩

/-- The responses of the run with more events go on OK from the end of the run. -/
theorem Run.goesOn_rest_ok {r : Run} {more : List HostEvent}
    (hok : ResponsesOk r.events.length r.initial) (hr : r.result = .next s)
    (h : ResponsesOk (r.goesOn more).events.length (r.goesOn more).initial) :
    ResponsesOk more.length (s.withPort more) := by
  obtain ⟨l, hfirst⟩ := Stretch.of_more_events (s := r.initial) more rfl hok hr .empty
  rw [List.length_append] at h
  exact hfirst.rest_ok h

theorem Run.succeeded_of_stretch {r : Run} (hr : r.Legal)
    (h : Stretch r.events.length r.initial .empty t l) (ht : ¬ t.halted) : r.Succeeded :=
  ⟨hr, ⟨t, h.run, not_not.mp ht⟩, h.ok⟩

/-- A run that ends with every subtile converted has the image as its artifact (R260). -/
theorem Producing.imageArtifact {r : Run} (h : Producing b done t l) (hr : r.Legal)
    (hstretch : Stretch r.events.length r.initial .empty t l) (hb : b.ConvertsTiles) (hwf : b.vram.wf)
    (hdone : ∀ p, p ∈ done ↔ inGrid p.1 p.2 b) : r.ImageArtifact b.vramImage := by
  refine ⟨Run.succeeded_of_stretch hr hstretch h.running, t, hstretch.run, ?_, ?_⟩
  · obtain ⟨m, hm, hconfig, hconv⟩ := h.image
    refine ⟨m, (congrArg RunRecord.image hstretch.record).trans hm, hconfig.trans h.config.symm, ?_⟩
    rw [hconfig]
    exact fun tx hx ty hy => hconv _ ((hdone (tx, ty)).mpr ⟨hx, hy⟩)
  · have hvram : t.vram = imageVram b := h.vram.trans
      (foldl_storeSubtile_order hb.tilesz hb.geometry (Memory.wf_writeRange _ _ _ hwf) hdone
        (mem_subtiles b))
    have hlen : (toWord (totalLen b)).toNat = totalLen b :=
      Nat.mod_eq_of_lt ((totalLen_lt hb.bpp).trans (by decide))
    rw [tileSection_of_lv h.lv h.vlen, hvram, hlen]
    rfl

/-- A run that goes on with a production of the image has it as its artifact (R260). -/
theorem imageArtifact_goesOn {r : Run} {more : List HostEvent} (hr : r.Legal)
    (hok : ResponsesOk r.events.length r.initial) (hs : r.result = .next s)
    (hmore : HostEvent.powerOn ∉ more) (hconv : s.ConvertsTiles) (hwf : s.vram.wf)
    (hdone : ∀ p, p ∈ done ↔ inGrid p.1 p.2 s)
    (h : ∀ l, ∃ t l', Stretch more.length (s.withPort more) l t l' ∧ Producing s done t l') :
    (r.goesOn more).ImageArtifact s.vramImage := by
  obtain ⟨t, l, hstretch, ht⟩ := Run.goesOn_stretch hok hs h
  exact ht.imageArtifact (Run.goesOn_legal hr hmore) hstretch hconv hwf hdone

theorem powerOn_not_mem_issue (is : List Instr) : HostEvent.powerOn ∉ issue is := by
  simp [issue]

theorem powerOn_not_mem_quiet {es : List HostEvent} (h : ∀ e ∈ es, QuietEvent e) :
    HostEvent.powerOn ∉ es := fun hmem => h _ hmem

theorem powerOn_not_mem_spacedTiles {spaced : List (List HostEvent × Subtile)}
    (h : ∀ p ∈ spaced, ∀ e ∈ p.1, QuietEvent e) : HostEvent.powerOn ∉ spacedTiles spaced := by
  unfold spacedTiles
  simp only [List.mem_append, List.mem_flatMap, not_or, not_exists, not_and]
  exact ⟨powerOn_not_mem_issue _,
    fun p hp => ⟨powerOn_not_mem_quiet (h p hp), powerOn_not_mem_issue _⟩⟩

/-- The Palette of a state: what CVTPAL there leaves in `PAL[0 .. PALLEN)` (R143, R260). -/
def State.palette (s : State) : List (Option HwColour) :=
  (List.range (outLength s)).map s.converted.pal.read

theorem exec_cvtpal_fits (ho : ¬ Overflows s) (hfit : outLength s ≤ s.params.palEntries) :
    exec .cvtpal s = .next s.converted := by
  obtain ⟨t, ht⟩ := exec_answers .cvtpal s
  rw [ht, exec_cvtpal_converted ho hfit ht]

theorem paletteSection_converted (s : State) : s.converted.paletteSection = some s.palette := by
  have hlen : (BitVec.ofNat 16 (paletteLength s)).toNat = outLength s := by
    rw [paletteLength_eq_outLength]
    exact Nat.mod_eq_of_lt (outLength_lt s)
  rw [paletteSection_of_pv rfl rfl, hlen]
  rfl

/-- A run that goes on with a CVTPAL has the Palette as its artifact (R260). -/
theorem paletteArtifact_cvtpal {r : Run} (hr : r.Legal) (hok : ResponsesOk r.events.length r.initial)
    (hs : r.result = .next s) (hrun : ¬ s.halted) (hsok : s.RespondedOk) (ho : ¬ Overflows s)
    (hfit : outLength s ≤ s.params.palEntries) :
    (r.goesOn (issue [.cvtpal])).PaletteArtifact s.palette := by
  obtain ⟨t, l, hstretch, rfl⟩ := Run.goesOn_stretch (more := issue [.cvtpal])
    (P := fun t _ => t = (s.withPort []).converted) hok hs
    fun l => ⟨_, _, .command (rest := []) rfl rfl hrun hsok (exec_cvtpal_fits ho hfit), rfl⟩
  have hlegal := Run.goesOn_legal hr (powerOn_not_mem_issue [.cvtpal])
  exact ⟨Run.succeeded_of_stretch hlegal hstretch hrun, _, hstretch.run, paletteSection_converted _⟩

/-- Settles O60: the record and VRAM are followed from VCLR or CVTIMG on to the end of the run, and the
subtiles' order cannot be observed. -/
theorem runsLeaveTheirArtifacts : Obligations.RunsLeaveTheirArtifacts := by
  intro r s hr hok hs
  obtain ⟨hinv, hrun⟩ := Run.inv_running hr hok hs
  have hsok : s.RespondedOk := responsesOk_zero.mp ((responsesOk_add (k := 0) hs).mp hok).2
  refine ⟨fun hb hg hpix hfit => ?_, fun ho hfit => ?_⟩
  · have hconv : s.ConvertsTiles := ⟨hrun, hinv.config.2.1, hb, hg, hpix, hfit⟩
    have hwf : s.vram.wf := hinv.memories.2.2.2.1.1
    refine ⟨s.imaged, s.vramImage, exec_cvtimg_fits hb hg hpix hfit, by simp [State.vramImage],
      fun a ha => by simp [State.vramImage, ha], ?_, fun order horder => ?_, ?_⟩
    · exact imageArtifact_goesOn hr hok hs (powerOn_not_mem_issue _) hconv hwf (mem_subtiles s)
        (producing_cvtimg hconv hsok)
    · exact imageArtifact_goesOn hr hok hs (powerOn_not_mem_issue _) hconv hwf horder.1
        (producing_tileByTile hconv (fun p => (horder.1 p).mp) hsok)
    · intro spaced last hlists hquiet hlast whole hwhole
      have hmore : HostEvent.powerOn ∉ spacedTiles spaced ++ last := fun hmem =>
        (List.mem_append.mp hmem).elim (powerOn_not_mem_spacedTiles hquiet) (powerOn_not_mem_quiet hlast)
      exact imageArtifact_goesOn hr hok hs hmore hconv hwf hlists.1
        (producing_spacedTiles hconv (fun p => (hlists.1 p).mp) hquiet hlast
          (Run.goesOn_rest_ok hok hs hwhole))
  · exact ⟨s.converted, s.palette, exec_cvtpal_fits ho hfit, by simp [State.palette],
      fun a ha => by simp [State.palette, ha], paletteArtifact_cvtpal hr hok hs hrun hsok ho hfit⟩

end Sys2Proof.Machine

namespace Sys2Proof.Machine

open Sys2Proof.Claims

variable {s t : State}

/-! ### Error entry writes nothing else -/

/-- Settles O9: a failed command's state is that of error entry. -/
theorem errorsLeaveNoPartialOutput : Obligations.ErrorsLeaveNoPartialOutput := by
  intro i s t r h hr h0
  obtain ⟨e, info0, info1, rfl⟩ := exec_failed h hr h0
  obtain rfl : { status := e.code, data := info0 } = r := Option.some.inj hr
  rfl

/-! ### The host memory port does not read ERR -/

/-- The result with ERR cleared in its state. -/
def Result.clearError (r : Result) : Result :=
  match r with
  | .next t => .next t.clearError
  | .fault e => .fault e
  | .refused e => .refused e

theorem ite_clearError {c : Prop} [Decidable c] {k l k' l' : Result} (hk : k' = Result.clearError k)
    (hl : l' = Result.clearError l) :
    (if c then k' else l') = Result.clearError (if c then k else l) := by
  split
  · exact hk
  · exact hl

theorem hostRead_clearError (space : BitVec 4) (addr : Word) (s : State) :
    hostRead space addr s.clearError = Result.clearError (hostRead space addr s) :=
  ite_clearError rfl rfl

theorem hostWrite_clearError (space : BitVec 4) (addr : Word) (value : Nat) (s : State) :
    hostWrite space addr value s.clearError = Result.clearError (hostWrite space addr value s) := by
  unfold hostWrite
  refine ite_clearError ?_ rfl
  split
  · exact ite_clearError rfl rfl
  · exact ite_clearError rfl rfl
  · rfl

/-- Settles O7: the dispatch answers Halted, and a transaction commutes with clearing ERR. -/
theorem haltedBlockKeepsItsState : Obligations.HaltedBlockKeepsItsState := by
  refine fun s hh => ⟨fun w hw => execute_halted_answers hh hw, fun e rest t he h => ?_⟩
  have hclear : handleEvent e (s.withPort rest).clearError =
      Result.clearError (handleEvent e (s.withPort rest)) := by
    rcases he with ⟨space, addr, rfl⟩ | ⟨space, addr, value, rfl⟩
    · exact hostRead_clearError space addr _
    · exact hostWrite_clearError space addr value _
  exact hclear.trans (congrArg Result.clearError h)

/-! ### What ends the halt -/

/-- `t` latches the error `s` latches, with the same information (R226). -/
def State.SameError (s t : State) : Prop :=
  t.status.err = s.status.err ∧ t.errinfo0 = s.errinfo0 ∧ t.errinfo1 = s.errinfo1

theorem State.SameError.running (h : s.SameError t) (hs : ¬ s.halted) : ¬ t.halted := by
  obtain ⟨herr, -, -⟩ := h
  exact fun ht => hs fun h0 => ht (herr.trans h0)

/-- A command word presented while halted keeps the error, unless it is a CLRST or a RESET (R229, R230). -/
theorem execute_halted_sameError {w : Word} (hh : s.halted) (h : execute w s = .next t) :
    s.SameError t ∨ decode w = .ok .clrst ∨ decode w = .ok .reset := by
  rcases execute_cases h with ⟨i, hd, hrun, h⟩ | ⟨-, -, rfl⟩ | ⟨hrun, -, -⟩
  · rcases oneOfTheFour_of_runsWhileHalted (hrun.resolve_left (not_not.mpr hh)) with
      rfl | ⟨reg, rfl⟩ | rfl | rfl
    · rw [execNop_cases h]
      exact .inl ⟨rfl, rfl, rfl⟩
    · rw [execRdreg_cases h]
      exact .inl ⟨rfl, rfl, rfl⟩
    · exact .inr (.inl hd)
    · exact .inr (.inr hd)
  · exact .inl ⟨rfl, rfl, rfl⟩
  · exact absurd hh hrun

/-- Neither transaction of the host port touches the latched error (R229). -/
theorem hostRead_sameError {space : BitVec 4} {addr : Word} (h : hostRead space addr s = .next t) :
    s.SameError t := by
  rcases hostRead_cases h with ⟨-, rfl⟩ | ⟨-, rfl⟩ <;> exact ⟨rfl, rfl, rfl⟩

theorem hostWrite_sameError {space : BitVec 4} {addr : Word} {value : Nat}
    (h : hostWrite space addr value s = .next t) : s.SameError t := by
  rcases hostWrite_cases h with ⟨-, -, -, rfl⟩ | ⟨-, -, -, rfl⟩ | rfl <;> exact ⟨rfl, rfl, rfl⟩

/-- Settles O8, event by event. -/
theorem haltEndsInThreeWays : Obligations.HaltEndsInThreeWays := by
  intro s t hh h
  cases hp : s.port with
  | nil =>
    rw [step_idle hp] at h
    injection h with h
    exact h ▸ .inl ⟨rfl, rfl, rfl⟩
  | cons e rest =>
    rw [step_event hp] at h
    cases e with
    | command w =>
      exact (execute_halted_sameError (s := s.withPort rest) hh h).imp_right
        fun hd => .inr ⟨w, rest, rfl, hd⟩
    | hostRead space addr => exact .inl (hostRead_sameError (s := s.withPort rest) h)
    | hostWrite space addr value => exact .inl (hostWrite_sameError (s := s.withPort rest) h)
    | powerOn => exact .inr (.inl ⟨rest, rfl⟩)

/-! ### What begins the halt -/

/-- A command word that takes the block into the halt ends in error entry (R226, R228). -/
theorem execute_halts {w : Word} (hs : ¬ s.halted) (h : execute w s = .next t) (ht : t.halted) :
    ∃ e info0 info1, t = s.raised e info0 info1 := by
  rcases execute_cases h with ⟨i, -, -, h⟩ | ⟨hh, -, -⟩ | ⟨-, -, h⟩
  · rcases exec_outcome h with h | ⟨-, data, rfl⟩
    · exact h
    · exact absurd ht (effect_running (s := s) i hs)
  · exact absurd hh hs
  · exact ⟨_, _, _, h⟩

/-- Settles O13: of the events only a command word can begin the halt, and error entry responds with what it
latches. -/
theorem latchedErrorIsReported : Obligations.LatchedErrorIsReported := by
  intro s t hs h ht
  cases hp : s.port with
  | nil =>
    rw [step_idle hp] at h
    injection h with h
    exact absurd (h ▸ ht) hs
  | cons e rest =>
    rw [step_event hp] at h
    cases e with
    | command w =>
      obtain ⟨e, info0, info1, rfl⟩ := execute_halts (s := s.withPort rest) hs h ht
      rfl
    | hostRead space addr =>
      exact absurd ht ((hostRead_sameError (s := s.withPort rest) h).running hs)
    | hostWrite space addr value =>
      exact absurd ht ((hostWrite_sameError (s := s.withPort rest) h).running hs)
    | powerOn =>
      injection h with h
      subst h
      exact absurd rfl ht

/-! ### Runs end, and with only OK responses succeed -/

theorem run_answers (k : Nat) (s : State) : ∃ t, core.run k s = .next t := by
  induction k generalizing s with
  | zero => exact ⟨s, rfl⟩
  | succ k ih =>
    obtain ⟨u, hu⟩ := step_answers s
    rw [run_succ_of_step k hu]
    exact ih u

/-- As many steps as there are events presented take them all (R74). -/
theorem run_takes_events {events : List HostEvent} (hp : s.port = events) :
    ∃ t, core.run events.length s = .next t ∧ t.port = [] := by
  induction events generalizing s with
  | nil => exact ⟨s, rfl, hp⟩
  | cons e events ih =>
    obtain ⟨u, hu, hport⟩ := (stepTakesOneEvent s).2 e events hp
    rw [List.length_cons, run_succ_of_step _ hu]
    exact ih hport

/-- Steps with only OK responses never enter the halt (R260). -/
theorem runSucceeded_of_responsesOk {k : Nat} (hs : ¬ s.halted) (hok : ResponsesOk k s) :
    RunSucceeded k s := by
  obtain ⟨t, ht⟩ := run_answers k s
  have hrun : ¬ t.halted :=
    run_induction (P := fun s => ¬ s.halted) (fun _ _ => step_running) hs hok ht
  exact ⟨⟨t, ht, not_not.mp hrun⟩, hok⟩

/-- Settles O56: a reset leaves a block that is not halted, and every step takes one event. -/
theorem allResponsesOkMeansSuccess : Obligations.AllResponsesOkMeansSuccess := by
  refine ⟨fun k s => runSucceeded_of_responsesOk, fun r hr => ⟨fun ⟨_, _, hok⟩ => hok, fun hok => ?_⟩,
    fun r => run_takes_events (s := r.initial) rfl⟩
  obtain ⟨-, hrun⟩ := hr.1.inv_running
  exact ⟨hr, runSucceeded_of_responsesOk (s := r.initial) hrun hok⟩

end Sys2Proof.Machine

namespace Sys2Proof.Machine

open Sys2Proof.Claims

variable {s t : State}

/-! ### The configuration a reset leaves -/

/-- The configuration registers and STATUS hold their reset values (R47). -/
structure State.ResetConfig (t : State) : Prop where
  bpp : t.bpp = 0#4
  srcdepth : t.srcdepth = 0#4
  tilesz : t.tilesz = 8#5
  width : t.width = 0#15
  height : t.height = 0#15
  ncol : t.ncol = 0#9
  padctl : t.padctl = 0#17
  dupctl : t.dupctl = 0#1
  status : t.status = Status.reset

theorem softReset_resetConfig (s : State) : s.softReset.ResetConfig :=
  ⟨rfl, rfl, rfl, rfl, rfl, rfl, rfl, rfl, rfl⟩

theorem powerOnReset_resetConfig (s : State) : s.powerOnReset.ResetConfig :=
  ⟨rfl, rfl, rfl, rfl, rfl, rfl, rfl, rfl, rfl⟩

theorem State.ResetConfig.respond (h : t.ResetConfig) (status : BitVec 4) (data : Word) :
    (t.respond status data).ResetConfig := { h with }

theorem resetConfig_of_afterResetOf (h : AfterResetOf s t) : t.ResetConfig := by
  rcases h with rfl | rfl | h
  · exact powerOnReset_resetConfig s
  · exact softReset_resetConfig s
  · rw [execReset_cases h]
    exact (softReset_resetConfig s).respond 0#4 0#32

namespace State.ResetConfig

theorem bppEff_eq (h : t.ResetConfig) : bppEff t = 2 := by
  rw [bppEff_of_srcdepth (congrArg BitVec.toNat h.bpp), h.srcdepth]
  rfl

theorem bppEff_legal (h : t.ResetConfig) : legalBpp (bppEff t) := .inl h.bppEff_eq

theorem width_toNat (h : t.ResetConfig) : t.width.toNat = 0 := congrArg BitVec.toNat h.width

theorem height_toNat (h : t.ResetConfig) : t.height.toNat = 0 := congrArg BitVec.toNat h.height

theorem padEnabled_eq (h : t.ResetConfig) : padEnabled t = false := by
  rw [padEnabled, h.padctl]
  rfl

/-- A 0 by 0 image is not ragged (R35). -/
theorem geometry_ok (h : t.ResetConfig) : geometryOk t := by
  rw [geometryOk, h.width_toNat, h.height_toNat]
  exact ⟨Nat.zero_mod _, Nat.zero_mod _⟩

theorem horizontalTiles_eq (h : t.ResetConfig) : horizontalTiles t = 0 := by
  rw [horizontalTiles, h.width_toNat]

theorem matrixCells_eq (h : t.ResetConfig) : matrixCells t = 0 := by
  rw [matrixCells, h.width_toNat, Nat.zero_mul]

theorem totalLen_eq (h : t.ResetConfig) : totalLen t = 0 := by
  rw [totalLen, totalSlots, if_pos h.tilesz, h.horizontalTiles_eq, Nat.zero_mul, Nat.zero_mul]

theorem outLength_eq (h : t.ResetConfig) : outLength t = 0 := by
  rw [outLength, h.padctl, h.ncol]
  rfl

theorem not_overflows (h : t.ResetConfig) : ¬ Overflows t := by
  rintro ⟨hpad, -⟩
  rw [h.padctl] at hpad
  exact Bool.false_ne_true hpad

theorem statusWord_eq (h : t.ResetConfig) : t.statusWord = 0#32 := by
  rw [statusWord_eq_statusValue, h.status]
  rfl

/-! ### What the commands do with it -/

/-- A 0 by 0 image takes no cell and no byte, so it fits at every size (R190 to R192). -/
theorem accepts_image {i : Instr} (h : t.ResetConfig) (hi : i = .vlen ∨ i = .vclr ∨ i = .cvtimg) :
    t.Accepts i := by
  have hpix : matrixCells t ≤ t.params.pixSize := h.matrixCells_eq ▸ Nat.zero_le _
  have hvram : totalLen t ≤ t.params.vramSize := h.totalLen_eq ▸ Nat.zero_le _
  rcases hi with rfl | rfl | rfl
  · exact ⟨h.bppEff_legal, h.geometry_ok⟩
  · exact ⟨h.bppEff_legal, h.geometry_ok, hvram⟩
  · exact ⟨h.bppEff_legal, h.geometry_ok, hpix, hvram⟩

theorem exec_image {i : Instr} (h : t.ResetConfig) (hi : i = .vlen ∨ i = .vclr ∨ i = .cvtimg) :
    ∃ u, exec i t = .next u ∧ u.response = some { status := 0#4, data := 0#32 } ∧
      u.vlen = some 0#32 := by
  have hlen : toWord (totalLen t) = 0#32 := congrArg toWord h.totalLen_eq
  refine ⟨_, exec_of_accepts (h.accepts_image hi), ?_⟩
  rcases hi with rfl | rfl | rfl <;> rw [State.effect, State.successData, hlen] <;> exact ⟨rfl, rfl⟩

/-- An empty colour list gives no pair, so CVTPAL answers length 0 and no duplicate (R143, R146). -/
theorem exec_cvtpal (h : t.ResetConfig) :
    ∃ u, exec .cvtpal t = .next u ∧ u.response = some { status := 0#4, data := 0#32 } ∧
      u.pallen = some 0#16 := by
  have hscan : dupscan t.dupctl (sourceEntries t.ncol.toNat t) = some (0#16, 0#16) := by
    rw [h.ncol]
    rfl
  have hdata : paletteData t (some (0#16, 0#16)) = 0#32 := by
    rw [paletteData_eq, h.outLength_eq]
    rfl
  refine ⟨_, exec_cvtpal_fits h.not_overflows (h.outLength_eq ▸ Nat.zero_le _), ?_⟩
  rw [State.converted, hscan, hdata, paletteLength_eq_outLength, h.outLength_eq]
  exact ⟨rfl, rfl⟩

/-- The block of a subtile has a positive side, and the image has none (R161). -/
theorem not_inBounds (h : t.ResetConfig) (tx ty : Nat) : ¬ inBounds tx ty t := by
  rintro ⟨hx, -⟩
  rw [h.width_toNat, h.tilesz, Nat.le_zero, Nat.mul_eq_zero] at hx
  exact hx.elim (Nat.succ_ne_zero _) (by decide)

theorem not_inGrid (h : t.ResetConfig) (tx ty : Nat) : ¬ inGrid tx ty t := by
  rintro ⟨hx, -⟩
  rw [h.horizontalTiles_eq] at hx
  exact Nat.not_lt_zero _ hx

theorem raises_tload (h : t.ResetConfig) (tx ty : BitVec 14) :
    Raises (exec (.tload tx ty) t) t 2#4 (BitVec.ofNat 32 tx.toNat) (BitVec.ofNat 32 ty.toNat) := by
  rw [← setWidth_eq_ofNat 32 tx, ← setWidth_eq_ofNat 32 ty]
  exact raises_of_raised (exec_tload_outOfBounds (h.not_inBounds _ _))

theorem raises_taddr (h : t.ResetConfig) (tx ty : BitVec 14) :
    Raises (exec (.taddr tx ty) t) t 2#4 (BitVec.ofNat 32 tx.toNat) (BitVec.ofNat 32 ty.toNat) := by
  rw [← setWidth_eq_ofNat 32 tx, ← setWidth_eq_ofNat 32 ty]
  exact raises_of_raised (exec_taddr_outOfBounds h.bppEff_legal fun ⟨_, hin⟩ => h.not_inGrid _ _ hin)

theorem raises_tenc (h : t.ResetConfig) : Raises (exec .tenc t) t 6#4 0#32 0#32 := by
  have htv : t.status.tv = false := congrArg Status.tv h.status
  exact raises_of_raised (h.statusWord_eq ▸ exec_tenc_notReady h.bppEff_legal htv)

theorem raises_tstore (h : t.ResetConfig) : Raises (exec .tstore t) t 6#4 0#32 0#32 := by
  have hev : t.status.ev = false := congrArg Status.ev h.status
  exact raises_of_raised (h.statusWord_eq ▸ exec_tstore_notReady h.bppEff_legal (.inl hev))

end State.ResetConfig

/-- Settles O21: either reset leaves the reset configuration, and that alone decides every test the eight
commands make. -/
theorem resetConfigurationIsUsable : Obligations.ResetConfigurationIsUsable := by
  intro s t _ hreset
  have h := resetConfig_of_afterResetOf hreset
  exact ⟨h.bppEff_eq, h.tilesz, h.width, h.height, h.ncol, h.padEnabled_eq, h.dupctl, fun _ => h.exec_image,
    h.exec_cvtpal, h.raises_tload, h.raises_taddr, h.raises_tenc, h.raises_tstore⟩

end Sys2Proof.Machine
